-- ==== Sys2Proof/Word.lean ====
section
/-! DEFINITION. The widths the engine moves data at, and the words the host hands to it.
Rules: 20_memory.md R60, R70; 30_encoding.md R90, R97. -/

namespace Sys2Proof

/-- A byte of host memory, u8 (20_memory.md R70). -/
abbrev Byte := BitVec 8

/-- A register, a command word, a host address or a length, u64 (00_scope.md R6, 20_memory.md R70). -/
abbrev Word := BitVec 64

/-- How many bytes host memory has: ADDR_BITS = 64 (00_scope.md R6, 20_memory.md R60). -/
def addressSpace : Nat := 2 ^ 64

/-- An instruction as the host hands it over, in one of the two formats of the opcode table.
`cmd w` is a command word (30_encoding.md R90): the DATA of a write transaction to CMD.
`bus header data` is a bus transaction (30_encoding.md R97), whose DATA the host supplies for a write and
which is not looked at for a read. -/
inductive HostWord where
  | cmd (w : Word)
  | bus (header : BitVec 16) (data : Word)
deriving DecidableEq, Repr

end Sys2Proof
end

