-- ==== Sys2Proof/Config.lean ====
section
/-! DEFINITION. What the platform fixes (00_scope.md R6), each OPEN parameter an opaque constant, and the one stream of
free values ("draws", 00_scope.md R12). Nothing in Lean can evaluate an opaque constant, so what is proved holds for
every value of it. -/

namespace Sys2Proof

/-- `size` bytes of host memory from address `base` on. -/
structure Region where
  base : Nat
  size : Nat
deriving DecidableEq, Repr

/-- `HAS_HW_CRC32`: the platform exposes a CRC-32 instruction that computes the function of 42_crc32.md R171
(00_scope.md R6, 42_crc32.md R179). -/
opaque Config.hasHwCrc32 : Bool

/-- The 8 KiB page of host addresses the register window stands in (00_scope.md R6, 10_state.md R20). -/
opaque Config.regBasePage : BitVec 51

/-- `REG_BASE`, 8 KiB aligned (00_scope.md R6). -/
def Config.regBase : Word := Config.regBasePage ++ 0#13

/-- The platform's `Readable` predicate as it stands at power-on: the regions of host memory that can NOT be read
(00_scope.md R6, 20_memory.md R62). -/
opaque Config.unreadable : List Region

/-- The k-th free value: "a value the model takes as a free input" (00_scope.md R12). It stands for the elapsed time
(60_exceptions.md R266), for a byte the host mutated during the scan (20_memory.md R74) and for the internal state that a
reset leaves unspecified (70_reset_and_hazards.md R280). -/
opaque Config.draw : Nat → Word

/-- `W`, the bytes of one word-wide hardware CRC-32 step (00_scope.md R6). -/
def Config.chunkBytes : Nat := 8

end Sys2Proof
end

