-- ==== Sys2Proof/Syntax.lean ====
section
/-! DEFINITION. The instructions: one constructor per row of spec/opcode_table.json. -/

namespace Sys2Proof

/-- The host's operations on the engine.
`buildTables` is BUILD_TABLES (40_table_generator.md R134).
`hashStream req prog` is HASH_STREAM (44_dispatcher.md R212): REQ is a 5-bit set in the order CRC16, CRC32, CRC64, XXH64,
XXH128 (30_encoding.md R92), `prog` is PROG_EN (R90).
`regRead offset` is REG_READ (44_dispatcher.md R223) and `regWrite offset data` is REG_WRITE (R224); OFFSET is a byte
offset in the 8 KiB window (30_encoding.md R97). -/
inductive Instr where
  | buildTables
  | hashStream (req : BitVec 5) (prog : Bool)
  | regRead (offset : BitVec 13)
  | regWrite (offset : BitVec 13) (data : Word)
deriving DecidableEq, Repr

end Sys2Proof
end

