-- ==== Sys2Proof/WellFormed.lean ====
section
/-! DEFINITION. Which instructions the encoding of the spec admits. -/

namespace Sys2Proof

/-- OFFSET[2:0] is 0: the only condition an admitted transaction's offset must meet (30_encoding.md R97, 20_memory.md
R64; a 13-bit offset never leaves the window). -/
def offsetAligned (offset : BitVec 13) : Bool := offset.extractLsb' 0 3 == 0#3

/-- Every request mask and both values of PROG_EN are legal (30_encoding.md R92); a register access needs an aligned
offset (R97). -/
def Instr.wellFormed : Instr → Bool
  | .buildTables => true
  | .hashStream _ _ => true
  | .regRead offset => offsetAligned offset
  | .regWrite offset _ => offsetAligned offset

end Sys2Proof
end

