-- ==== Sys2Proof/Decode.lean ====
section
/-! DEFINITION. The decoder, total on both formats and rejecting by name, and after it the encoder, both written from
30_encoding.md R90 to R97 and R101. -/

namespace Sys2Proof

/-- Why a word is no instruction. The first three make a command word illegal (30_encoding.md R101), the last two a bus
header that 20_memory.md R64 does not admit. -/
inductive DecodeError where
  | reservedOpcode
  | reservedCommandBits
  | buildTablesOperands
  | reservedHeaderBits
  | unalignedOffset
deriving DecidableEq, Repr

/-- OP, bits [3:0] of a command word (30_encoding.md R90). -/
def cmdOp (w : Word) : BitVec 4 := w.extractLsb' 0 4

/-- REQ, bits [8:4] of a command word (30_encoding.md R90, R92). -/
def cmdReq (w : Word) : BitVec 5 := w.extractLsb' 4 5

/-- PROG_EN, bit [9] of a command word (30_encoding.md R90). -/
def cmdProg (w : Word) : Bool := w.getLsbD 9

/-- RSV, bits [63:10] of a command word (30_encoding.md R90). -/
def cmdRsv (w : Word) : BitVec 54 := w.extractLsb' 10 54

/-- OP of BUILD_TABLES (30_encoding.md R91). -/
def opBuildTables : BitVec 4 := 0x1#4

/-- OP of HASH_STREAM (30_encoding.md R91). -/
def opHashStream : BitVec 4 := 0x2#4

/-- A command word, decoded by 30_encoding.md R91 to R94; the illegal ones are those of R101. -/
def decodeCommand (w : Word) : Except DecodeError Instr :=
  if cmdOp w ≠ opBuildTables ∧ cmdOp w ≠ opHashStream then .error .reservedOpcode
  else if cmdRsv w ≠ 0 then .error .reservedCommandBits
  else if cmdOp w = opHashStream then .ok (.hashStream (cmdReq w) (cmdProg w))
  else if cmdReq w ≠ 0 ∨ cmdProg w then .error .buildTablesOperands
  else .ok .buildTables

/-- DIR, bit [15] of a bus header: 1 is a write (30_encoding.md R97). -/
def headerDir (h : BitVec 16) : Bool := h.getLsbD 15

/-- Bits [14:13] of a bus header, which are 0 (30_encoding.md R97). -/
def headerZero (h : BitVec 16) : BitVec 2 := h.extractLsb' 13 2

/-- OFFSET, bits [12:0] of a bus header (30_encoding.md R97). -/
def headerOffset (h : BitVec 16) : BitVec 13 := h.extractLsb' 0 13

/-- A bus transaction, decoded by 30_encoding.md R97 and R98. -/
def decodeBus (h : BitVec 16) (data : Word) : Except DecodeError Instr :=
  if headerZero h ≠ 0 then .error .reservedHeaderBits
  else if ¬ offsetAligned (headerOffset h) then .error .unalignedOffset
  else if headerDir h then .ok (.regWrite (headerOffset h) data)
  else .ok (.regRead (headerOffset h))

/-- The decoder: any word of either format is an instruction or is rejected by name. -/
def decode : HostWord → Except DecodeError Instr
  | .cmd w => decodeCommand w
  | .bus h data => decodeBus h data

/-- A command word from its fields, RSV = 0 (30_encoding.md R90). -/
def commandWord (op : BitVec 4) (req : BitVec 5) (prog : Bool) : Word := 0#54 ++ BitVec.ofBool prog ++ req ++ op

/-- A bus header from its fields, bits [14:13] 0 (30_encoding.md R97). -/
def busHeader (dir : Bool) (offset : BitVec 13) : BitVec 16 := BitVec.ofBool dir ++ 0#2 ++ offset

/-- The encoder: the word of a well-formed instruction (30_encoding.md R93, R94, R97). -/
def encode : Instr → HostWord
  | .buildTables => .cmd (commandWord opBuildTables 0 false)
  | .hashStream req prog => .cmd (commandWord opHashStream req prog)
  | .regRead offset => .bus (busHeader false offset) 0
  | .regWrite offset data => .bus (busHeader true offset) data

/-- The word of a row of spec/opcode_table.json, bits numbered as the table numbers them: a 64-bit row is a command
word; a shorter one is a bus header, with any bits above the 16th read as DATA. -/
def hostWordOfTable (nbits w : Nat) : HostWord :=
  if nbits = 64 then .cmd (BitVec.ofNat 64 w) else .bus (BitVec.ofNat 16 w) (BitVec.ofNat 64 (w >>> 16))

/-- What the decoder reads from such a word. -/
def decodeTableWord (nbits w : Nat) : Option Instr := (decode (hostWordOfTable nbits w)).toOption

end Sys2Proof
end

