-- ==== Sys2Proof/Machine/State.lean ====
section
/-! DEFINITION. Every piece of state the spec gives the machine (10_state.md), the outside world as plain data beside it
(00_scope.md R13), the reasons a step can stop, and the state right after reset (10_state.md R41). -/

namespace Sys2Proof.Machine

/-- STATUS.STATE (10_state.md R23). -/
inductive EngineState where
  | idle
  | busy
  | done
  | error
deriving DecidableEq, Repr

/-- STATUS.ERR (60_exceptions.md R250). Codes 5 to 15 are never produced. -/
inductive ErrorCode where
  | none
  | inputUnavailable
  | emptySource
  | tablesNotBuilt
  | illegalCommand
deriving DecidableEq, Repr

/-- BACKEND (10_state.md R37). -/
inductive Backend where
  | hw
  | sw
deriving DecidableEq, Repr

/-- An event Progress(n, len) on the progress port (44_dispatcher.md R222). -/
structure ProgressEvent where
  n : Word
  len : Word
deriving DecidableEq, Repr

/-- A host access by host address, of any direction and width: what 20_memory.md R64 admits or refuses. -/
structure Access where
  write : Bool
  addr : Word
  bytes : Nat
  data : Word
deriving DecidableEq, Repr

/-- One move of an agent (00_scope.md R13).
`transaction w`: the host performs a bus transaction or issues a command word (30_encoding.md R97, 10_state.md R25).
`access a`: the same by host address (20_memory.md R60, R64).
`engine`: the engine takes its next step (00_scope.md R14).
`store addr byte`: the host stores a byte in its own memory (20_memory.md R61, R74).
`setUnreadable regions`: the platform changes what is readable (60_exceptions.md R254). -/
inductive Move where
  | transaction (w : HostWord)
  | access (a : Access)
  | engine
  | store (addr : Word) (byte : Byte)
  | setUnreadable (regions : List Region)
deriving DecidableEq, Repr

/-- One slot of time: a move, and whether the reset input asserts with it. A reset takes effect instead of the move
(60_exceptions.md R265). -/
structure Slot where
  resetAsserted : Bool
  move : Move
deriving DecidableEq, Repr

/-- The machine and what surrounds it. Registers the window shows are views of these fields (Flags.lean, Operands.lean). -/
structure State where
  /-- STATUS.STATE (10_state.md R23). -/
  engineState : EngineState
  /-- STATUS.ERR (60_exceptions.md R250). -/
  err : ErrorCode
  /-- STATUS.TABLES_VALID (10_state.md R36). -/
  tablesValid : Bool
  /-- STATUS.OVERRUN (10_state.md R38). -/
  overrun : Bool
  /-- STATUS.RES_VALID (44_dispatcher.md R221). -/
  resValid : BitVec 5
  /-- SRC_ADDR (10_state.md R26). -/
  srcAddr : Word
  /-- SRC_LEN (10_state.md R27). -/
  srcLen : Word
  /-- RES_CRC16, a u16 (10_state.md R28). -/
  resCrc16 : BitVec 16
  /-- RES_CRC32, a u32 (10_state.md R28). -/
  resCrc32 : BitVec 32
  /-- RES_CRC64 (10_state.md R28). -/
  resCrc64 : Word
  /-- RES_XXH64 (10_state.md R28). -/
  resXxh64 : Word
  /-- RES_XXH128_LO (10_state.md R28). -/
  resXxh128Lo : Word
  /-- RES_XXH128_HI (10_state.md R28). -/
  resXxh128Hi : Word
  /-- RES_ELAPSED (10_state.md R29). -/
  resElapsed : Word
  /-- PROGRESS (10_state.md R30). -/
  progress : Word
  /-- L_OP (10_state.md R33). -/
  lOp : BitVec 4
  /-- L_ADDR (10_state.md R33). -/
  lAddr : Word
  /-- L_LEN (10_state.md R33). -/
  lLen : Word
  /-- L_REQ (10_state.md R33). -/
  lReq : BitVec 5
  /-- L_TAG (10_state.md R33). -/
  lTag : BitVec 5
  /-- L_PROG (10_state.md R33). -/
  lProg : Bool
  /-- ACC16 (10_state.md R34). -/
  acc16 : BitVec 16
  /-- ACC32 (10_state.md R34). -/
  acc32 : BitVec 32
  /-- ACC64 (10_state.md R34). -/
  acc64 : Word
  /-- ACCXX (10_state.md R34). -/
  accXX : Word
  /-- N, the byte counter (10_state.md R35). -/
  count : Word
  /-- T16 (10_state.md R36). -/
  t16 : Vector (BitVec 16) 256
  /-- T64 (10_state.md R36). -/
  t64 : Vector Word 256
  /-- BACKEND (10_state.md R37). -/
  backend : Backend
  /-- DATA of the last read transaction (30_encoding.md R97); the model's own. -/
  readData : Word
  /-- The events emitted on the progress port, oldest first (44_dispatcher.md R222). -/
  progressEvents : List ProgressEvent
  /-- Host memory (20_memory.md R60): addresses rising, no entry equal to what an unlisted address reads as. -/
  mem : List Host.Cell
  /-- The platform's `Readable`: the regions that can NOT be read (00_scope.md R6). -/
  unreadable : List Region
  /-- Addresses of the ByteSource the host stored to during the running scan (20_memory.md R74); the model's own. -/
  mutated : List Word
  /-- The bytes the running scan has consumed, oldest first: byte i is the one at L_ADDR + i (20_memory.md R63). R74 needs them
  where the host stores to one of their addresses later in the scan; the model's own (log 11). -/
  scanned : List Byte
  /-- The outside world's coming moves, the next first (00_scope.md R13); the model's own. -/
  schedule : List Slot
  /-- How many free values have been drawn (00_scope.md R12); the model's own, and no statement rests on its value. -/
  draws : Nat
deriving DecidableEq, Repr

/-- Why a step stops. -/
inductive Fault where
  /-- Raised by the engine step in a state no run reaches: STATE is BUSY and L_OP names no command, so no rule of the spec
  gives a step. Safe: the machine stops where the spec is silent. -/
  | noRoutine
deriving DecidableEq, Repr

/-- Why an instruction or an access is turned away. -/
inductive Refusal where
  /-- Raised by exec's arm of an instruction that has no meaning yet. Safe. -/
  | notModelled (mnemonic : String)
  /-- Raised by a register access whose offset is not 8-byte aligned, which 20_memory.md R64 says a model refuses. Safe. -/
  | unalignedAccess
  /-- Raised by a bus header whose bits [14:13] are not 0 (30_encoding.md R97, R101). Safe. -/
  | reservedHeader
  /-- Raised by an access narrower or wider than 64 bits (20_memory.md R64). Safe. -/
  | accessWidth
  /-- Raised by an access outside the 8 KiB window (20_memory.md R64). Safe. -/
  | outsideWindow
  /-- Raised by a host store of one byte into the window, an access narrower than 64 bits (20_memory.md R64). Safe. -/
  | storeToWindow
deriving DecidableEq, Repr

/-- Capability detection, once, at reset (10_state.md R37, 70_reset_and_hazards.md R280). -/
def selectBackend (hasHwCrc32 : Bool) : Backend := if hasHwCrc32 then .hw else .sw

/-- The machine right after reset (10_state.md R41). The entries R41 calls unspecified (L_*, ACC*, N, T16, T64) are 0:
DESIGN CHOICE, unsafe, log 8. Host memory lists nothing (log 7), the outside world has no move to make (log 2). -/
def State.reset : State where
  engineState := .idle
  err := .none
  tablesValid := false
  overrun := false
  resValid := 0
  srcAddr := 0
  srcLen := 0
  resCrc16 := 0
  resCrc32 := 0
  resCrc64 := 0
  resXxh64 := 0
  resXxh128Lo := 0
  resXxh128Hi := 0
  resElapsed := 0
  progress := 0
  lOp := 0
  lAddr := 0
  lLen := 0
  lReq := 0
  lTag := 0
  lProg := false
  acc16 := 0
  acc32 := 0
  acc64 := 0
  accXX := 0
  count := 0
  t16 := Vector.replicate 256 0
  t64 := Vector.replicate 256 0
  backend := selectBackend Config.hasHwCrc32
  readData := 0
  progressEvents := []
  mem := []
  unreadable := Config.unreadable
  mutated := []
  scanned := []
  schedule := []
  draws := 0

end Sys2Proof.Machine
end

