-- ==== Sys2Proof/Machine/Ops.lean ====
section
/-! DEFINITION. The named operations over host memory and the registers: memory bytes, readability, clearing the results
and raising an error (what this engine has in place of taking an exception and returning from one, 60_exceptions.md R256,
R261), the acceptance of a command, and reset. -/

namespace Sys2Proof.Machine

/-! ### Host memory -/

/-- What a byte of host memory nothing has written reads as. The spec gives host memory no contents: DESIGN CHOICE,
unsafe, log 7. -/
def Memory.unlisted : Byte := 0

/-- `MemRead(addr, 1)` of a readable byte (00_scope.md R9). -/
def Memory.read : List Host.Cell → Nat → Byte
  | [], _ => Memory.unlisted
  | (k, x) :: rest, a => if k = a then x else Memory.read rest a

/-- A host store of one byte, keeping the canonical form. -/
def Memory.write : List Host.Cell → Nat → Byte → List Host.Cell
  | [], a, v => if v = Memory.unlisted then [] else [(a, v)]
  | (k, x) :: rest, a, v =>
    if a < k then (if v = Memory.unlisted then (k, x) :: rest else (a, v) :: (k, x) :: rest)
    else if a = k then (if v = Memory.unlisted then rest else (a, v) :: rest)
    else (k, x) :: Memory.write rest a v

/-- The canonical form of host memory: addresses strictly rising and inside the address space, no entry equal to what an
unlisted address reads as. -/
abbrev Memory.wf (m : List Host.Cell) : Prop :=
  m.Pairwise (fun x y => x.1 < y.1) ∧ ∀ c ∈ m, c.1 < addressSpace ∧ c.2 ≠ Memory.unlisted

/-- A region has no byte among the n from address a on. -/
def regionAvoids (r : Region) (a n : Nat) : Bool := decide (r.base + r.size ≤ a ∨ a + n ≤ r.base ∨ r.size = 0 ∨ n = 0)

/-- `Readable(a, n)`: the n bytes from a on can be read (00_scope.md R6). -/
def readable (unreadable : List Region) (a n : Nat) : Bool := unreadable.all (fun r => regionAvoids r a n)

/-- The bounds check of a ByteSource (20_memory.md R62): readable, and no wrap past the top of the address space. -/
def boundsOk (unreadable : List Region) (addr len : Word) : Bool :=
  readable unreadable addr.toNat len.toNat && decide (addr.toNat + len.toNat ≤ addressSpace)

/-! ### Errors -/

/-- Clearing the results and the error, done at every acceptance (44_dispatcher.md R211); it is also how a host leaves an
error (60_exceptions.md R261). -/
def clearResults (s : State) : State :=
  { s with
    resCrc16 := 0, resCrc32 := 0, resCrc64 := 0, resXxh64 := 0, resXxh128Lo := 0, resXxh128Hi := 0,
    resElapsed := 0, progress := 0, resValid := 0, err := .none }

/-- `raise Error(code)` (60_exceptions.md R256). -/
def raiseError (code : ErrorCode) (s : State) : State := { s with engineState := .error, err := code }

/-- A write of CMD, SRC_ADDR or SRC_LEN while BUSY: ignored, and OVERRUN is set (10_state.md R38). -/
def setOverrun (s : State) : State := { s with overrun := true }

/-- A write of CMD (44_dispatcher.md R210): ignored while BUSY, else the results are cleared and the command goes on. -/
def issueCommand (accept : State → State) (s : State) : State :=
  if s.engineState = .busy then setOverrun s else accept (clearResults s)

/-! ### Draws -/

/-- The k-th of the free values a step takes next (00_scope.md R12). -/
def drawAt (s : State) (k : Nat) : Word := Config.draw (s.draws + k)

/-! ### Reset -/

/-- How many free values a reset takes: the eleven of L_* and the accumulators, and 256 for each table. -/
def resetDraws : Nat := 523

/-- The reset input asserts (70_reset_and_hazards.md R280). What R280 calls unspecified is drawn afresh (log 9). Host
memory, the platform, what has been put out and the outside world's coming moves are not the engine's and stay. -/
def applyReset (s : State) : State :=
  { s with
    engineState := .idle, err := .none, tablesValid := false, overrun := false, resValid := 0,
    srcAddr := 0, srcLen := 0, resCrc16 := 0, resCrc32 := 0, resCrc64 := 0, resXxh64 := 0, resXxh128Lo := 0,
    resXxh128Hi := 0, resElapsed := 0, progress := 0,
    backend := selectBackend Config.hasHwCrc32,
    lOp := (drawAt s 0).setWidth 4, lAddr := drawAt s 1, lLen := drawAt s 2, lReq := (drawAt s 3).setWidth 5,
    lTag := (drawAt s 4).setWidth 5, lProg := (drawAt s 5).getLsbD 0,
    acc16 := (drawAt s 6).setWidth 16, acc32 := (drawAt s 7).setWidth 32, acc64 := drawAt s 8, accXX := drawAt s 9,
    count := drawAt s 10,
    t16 := Vector.ofFn (fun i => (drawAt s (11 + i.val)).setWidth 16),
    t64 := Vector.ofFn (fun i => drawAt s (267 + i.val)),
    mutated := [], scanned := [], draws := s.draws + resetDraws }

end Sys2Proof.Machine
end

