-- ==== Sys2Proof/Machine/Flags.lean ====
section
/-! DEFINITION. The bits of STATUS and CAPS, and the conditions the engine tests (10_state.md R21, R22). -/

namespace Sys2Proof.Machine

/-- STATUS.STATE's code (10_state.md R23). -/
def stateCode : EngineState → BitVec 2
  | .idle => 0
  | .busy => 1
  | .done => 2
  | .error => 3

/-- STATUS.ERR's code (60_exceptions.md R250). -/
def errCode : ErrorCode → BitVec 4
  | .none => 0
  | .inputUnavailable => 1
  | .emptySource => 2
  | .tablesNotBuilt => 3
  | .illegalCommand => 4

/-- STATUS (10_state.md R22): [63:21] 0, RES_VALID, [15:10] 0, OVERRUN, TABLES_VALID, ERR, [3:2] 0, STATE. -/
def statusWord (s : State) : Word :=
  0#43 ++ s.resValid ++ 0#6 ++ BitVec.ofBool s.overrun ++ BitVec.ofBool s.tablesValid ++ errCode s.err ++ 0#2 ++
    stateCode s.engineState

/-- CAPS (10_state.md R21): [63:8] 0, CHUNK_BYTES, [3:2] 0, BACKEND_HW, HW_CRC32_PRESENT. -/
def capsWord (s : State) : Word :=
  0#56 ++ BitVec.ofNat 4 Config.chunkBytes ++ 0#2 ++ BitVec.ofBool (s.backend == .hw) ++ BitVec.ofBool Config.hasHwCrc32

/-- The request needs a lookup table: REQ[0] or REQ[2] (60_exceptions.md R253). -/
def needsTables (req : BitVec 5) : Bool := req.getLsbD 0 || req.getLsbD 2

/-- The routine tag: `TAG = REQ OR (REQ[4] << 3)` (30_encoding.md R95). -/
def routineTag (req : BitVec 5) : BitVec 5 := req ||| ((BitVec.ofBool (req.getLsbD 4)).setWidth 5 <<< 3)

/-- `S = max(1, L div 100)` (44_dispatcher.md R222). -/
def progressStride (len : Nat) : Nat := max 1 (len / 100)

/-- `n ∈ ProgressPoints(L)` (44_dispatcher.md R222). -/
def progressPoint (n len : Nat) : Bool := (decide (1 ≤ n ∧ n ≤ len) && n % progressStride len == 0) || n == len

end Sys2Proof.Machine
end

