-- ==== Sys2Proof/Machine/Operands.lean ====
section
/-! DEFINITION. The operand forms: the registers of the window by offset (10_state.md R20), what each reads and what a
write of SRC_ADDR or SRC_LEN does (20_memory.md R65, R66), and the byte a scan step reads (R63, R74). -/

namespace Sys2Proof.Machine

/-- What stands at an offset of the window (10_state.md R20). -/
inductive Reg where
  | caps
  | status
  | cmd
  | srcAddr
  | srcLen
  | resCrc16
  | resCrc32
  | resCrc64
  | resXxh64
  | resXxh128Lo
  | resXxh128Hi
  | resElapsed
  | progress
  | crc16Table (i : BitVec 8)
  | crc64Table (i : BitVec 8)
  | reserved
deriving DecidableEq, Repr

/-- The register at an aligned offset, by its 64-bit index OFFSET / 8 (10_state.md R20). -/
def regAt (offset : BitVec 13) : Reg :=
  match (offset.extractLsb' 3 10).toNat with
  | 0 => .caps
  | 1 => .status
  | 2 => .cmd
  | 3 => .srcAddr
  | 4 => .srcLen
  | 5 => .resCrc16
  | 6 => .resCrc32
  | 7 => .resCrc64
  | 8 => .resXxh64
  | 9 => .resXxh128Lo
  | 10 => .resXxh128Hi
  | 11 => .resElapsed
  | 12 => .progress
  | k =>
    if k < 0x100 then .reserved
    else if k < 0x200 then .crc16Table (offset.extractLsb' 3 8)
    else if k < 0x300 then .crc64Table (offset.extractLsb' 3 8)
    else .reserved

/-- A register's offset (10_state.md R20); the reserved offsets have no name, and the first of them stands here. -/
def regOffset : Reg → BitVec 13
  | .caps => 0x000
  | .status => 0x008
  | .cmd => 0x010
  | .srcAddr => 0x018
  | .srcLen => 0x020
  | .resCrc16 => 0x028
  | .resCrc32 => 0x030
  | .resCrc64 => 0x038
  | .resXxh64 => 0x040
  | .resXxh128Lo => 0x048
  | .resXxh128Hi => 0x050
  | .resElapsed => 0x058
  | .progress => 0x060
  | .crc16Table i => 0b01#2 ++ i ++ 0#3
  | .crc64Table i => 0b10#2 ++ i ++ 0#3
  | .reserved => 0x068

/-- Entry i of a lookup table (10_state.md R36). -/
def tableAt {w : Nat} (t : Vector (BitVec w) 256) (i : BitVec 8) : BitVec w :=
  t[i.toNat]'(Nat.lt_of_lt_of_le i.isLt (by decide))

/-- What a read of the register returns (20_memory.md R65; 10_state.md R20 to R32). -/
def readReg (s : State) : Reg → Word
  | .caps => capsWord s
  | .status => statusWord s
  | .cmd => 0
  | .srcAddr => s.srcAddr
  | .srcLen => s.srcLen
  | .resCrc16 => s.resCrc16.setWidth 64
  | .resCrc32 => s.resCrc32.setWidth 64
  | .resCrc64 => s.resCrc64
  | .resXxh64 => s.resXxh64
  | .resXxh128Lo => s.resXxh128Lo
  | .resXxh128Hi => s.resXxh128Hi
  | .resElapsed => s.resElapsed
  | .progress => s.progress
  | .crc16Table i => if s.tablesValid then (tableAt s.t16 i).setWidth 64 else 0
  | .crc64Table i => if s.tablesValid then tableAt s.t64 i else 0
  | .reserved => 0

/-- A write of SRC_ADDR (20_memory.md R66). -/
def writeSrcAddr (v : Word) (s : State) : State :=
  if s.engineState = .busy then setOverrun s else { s with srcAddr := v }

/-- A write of SRC_LEN (20_memory.md R66). -/
def writeSrcLen (v : Word) (s : State) : State :=
  if s.engineState = .busy then setOverrun s else { s with srcLen := v }

/-- The host address of the next byte of the scan, `L_ADDR + N` (44_dispatcher.md R215). -/
def scanAddr (s : State) : Word := s.lAddr + s.count

/-- The next byte of the scan can be read (60_exceptions.md R254). -/
def scanReadable (s : State) : Bool := readable s.unreadable (scanAddr s).toNat 1

/-- The next byte of the scan: what host memory holds, or a draw where the host has stored to it since the
acceptance (20_memory.md R63, R74). -/
def scanByte (s : State) : Byte :=
  if scanAddr s ∈ s.mutated then (drawAt s 0).setWidth 8 else Memory.read s.mem (scanAddr s).toNat

/-- The read of the next byte takes a draw exactly where `scanByte` uses one. -/
def afterScanRead (s : State) : State :=
  { s with draws := if scanAddr s ∈ s.mutated then s.draws + 1 else s.draws }

/-- The address lies in the ByteSource of the running HASH_STREAM (20_memory.md R61, R74). -/
def inRunningSource (s : State) (addr : Word) : Bool :=
  s.engineState == .busy && s.lOp == opHashStream &&
    decide (s.lAddr.toNat ≤ addr.toNat ∧ addr.toNat < s.lAddr.toNat + s.lLen.toNat)

end Sys2Proof.Machine
end

