-- ==== Sys2Proof/Machine/TableGenerator.lean ====
section
/-! DEFINITION. The table generator (40_table_generator.md R130, R131). -/

namespace Sys2Proof.Machine

/-- The CRC-16 polynomial (40_table_generator.md R130). -/
def poly16 : BitVec 16 := 0x1021#16

/-- The CRC-64 polynomial (40_table_generator.md R130). -/
def poly64 : Word := 0x42F0E1EBA9EA3693#64

/-- `f` applied n times. -/
def applyTimes {α : Type} (f : α → α) : Nat → α → α
  | 0, x => x
  | n + 1, x => applyTimes f n (f x)

/-- One shift/conditional-XOR step: the top bit before the shift decides (40_table_generator.md R131). -/
def polyStep {w : Nat} (poly c : BitVec w) : BitVec w := if c.msb then (c <<< 1) ^^^ poly else c <<< 1

/-- `TableEntry(poly, w, b)` (40_table_generator.md R131). -/
def tableEntry {w : Nat} (poly : BitVec w) (b : Byte) : BitVec w := applyTimes (polyStep poly) 8 (b.setWidth w <<< (w - 8))

/-- T16 as BUILD_TABLES writes it (40_table_generator.md R131). -/
def builtT16 : Vector (BitVec 16) 256 := Vector.ofFn (fun i => tableEntry poly16 (BitVec.ofNat 8 i.val))

/-- T64 as BUILD_TABLES writes it (40_table_generator.md R131). -/
def builtT64 : Vector Word 256 := Vector.ofFn (fun i => tableEntry poly64 (BitVec.ofNat 8 i.val))

end Sys2Proof.Machine
end

