-- ==== Sys2Proof/Machine/Crc.lean ====
section
/-! DEFINITION. The CRC-16 and CRC-64 table engines, their bitwise forms and their functions over a byte sequence
(41_crc16_crc64.md). -/

namespace Sys2Proof.Machine

/-- CRC16_INIT (41_crc16_crc64.md R150). -/
def crc16Init : BitVec 16 := 0xFFFF#16

/-- CRC16_STEP (41_crc16_crc64.md R151). -/
def crc16Step (t16 : Vector (BitVec 16) 256) (acc : BitVec 16) (b : Byte) : BitVec 16 :=
  let idx := (acc >>> 8) ^^^ b.setWidth 16
  tableAt t16 (idx.setWidth 8) ^^^ (acc <<< 8)

/-- The bitwise form of CRC16_STEP (41_crc16_crc64.md R154). -/
def crc16Bitwise (acc : BitVec 16) (b : Byte) : BitVec 16 :=
  applyTimes (fun c => if c.getLsbD 15 then (c <<< 1) ^^^ 0x1021#16 else c <<< 1) 8 (acc ^^^ (b.setWidth 16 <<< 8))

/-- `CRC16(B)` (41_crc16_crc64.md R153). -/
def crc16Of (bs : List Byte) : BitVec 16 := bs.foldl (crc16Step builtT16) crc16Init

/-- CRC64_INIT (41_crc16_crc64.md R155). -/
def crc64Init : Word := 0

/-- CRC64_STEP (41_crc16_crc64.md R156). -/
def crc64Step (t64 : Vector Word 256) (acc : Word) (b : Byte) : Word :=
  let idx := (acc >>> 56) ^^^ b.setWidth 64
  (acc <<< 8) ^^^ tableAt t64 (idx.setWidth 8)

/-- The bitwise form of CRC64_STEP (41_crc16_crc64.md R159). -/
def crc64Bitwise (acc : Word) (b : Byte) : Word :=
  applyTimes (fun c => if c.getLsbD 63 then (c <<< 1) ^^^ 0x42F0E1EBA9EA3693#64 else c <<< 1) 8
    (acc ^^^ (b.setWidth 64 <<< 56))

/-- `CRC64(B)` (41_crc16_crc64.md R158). -/
def crc64Of (bs : List Byte) : Word := bs.foldl (crc64Step builtT64) crc64Init

end Sys2Proof.Machine
end

