-- ==== Sys2Proof/Machine/Crc32.lean ====
section
/-! DEFINITION. The CRC-32 engine: the byte function, both backends, the chunk schedule of the hardware backend and the
function over a byte sequence (42_crc32.md). The polynomial and the reflection are the spec's, supplied there from general
knowledge (93_implementation_defined.md G1, log 19). -/

namespace Sys2Proof.Machine

/-- CRC32_INIT (42_crc32.md R170). -/
def crc32Init : BitVec 32 := 0xFFFFFFFF#32

/-- RPOLY32 (42_crc32.md R171). -/
def rpoly32 : BitVec 32 := 0xEDB88320#32

/-- One step of CRC32_BYTE's loop (42_crc32.md R171). -/
def reflectedStep (c : BitVec 32) : BitVec 32 := if c.getLsbD 0 then (c >>> 1) ^^^ rpoly32 else c >>> 1

/-- `CRC32_BYTE(c, b)` (42_crc32.md R171). -/
def crc32Byte (c : BitVec 32) (b : Byte) : BitVec 32 := applyTimes reflectedStep 8 (c ^^^ b.setWidth 32)

/-- `T32[n]`, internal to the software backend (42_crc32.md R171, R173). -/
def t32 (n : BitVec 8) : BitVec 32 := crc32Byte 0 n

/-- The table form of CRC32_BYTE (42_crc32.md R171). -/
def crc32ByteTable (c : BitVec 32) (b : Byte) : BitVec 32 := t32 ((c ^^^ b.setWidth 32).setWidth 8) ^^^ (c >>> 8)

/-- CRC32_HWBYTE (42_crc32.md R174). -/
def crc32HwByte (c : BitVec 32) (b : Byte) : BitVec 32 := crc32Byte c b

/-- CRC32_HWWORD: the W = 8 bytes in ascending address order (42_crc32.md R174). -/
def crc32HwWord (c : BitVec 32) (w0 w1 w2 w3 w4 w5 w6 w7 : Byte) : BitVec 32 :=
  crc32Byte (crc32Byte (crc32Byte (crc32Byte (crc32Byte (crc32Byte (crc32Byte (crc32Byte c w0) w1) w2) w3) w4) w5) w6) w7

/-- The hardware backend's chunk schedule: whole chunks of W bytes from the start, the rest byte by byte (42_crc32.md
R175). -/
def crc32HwScan : BitVec 32 → List Byte → BitVec 32
  | c, w0 :: w1 :: w2 :: w3 :: w4 :: w5 :: w6 :: w7 :: rest => crc32HwScan (crc32HwWord c w0 w1 w2 w3 w4 w5 w6 w7) rest
  | c, rest => rest.foldl crc32HwByte c

/-- The software backend's scan: one byte at a time (42_crc32.md R173). -/
def crc32SwScan (c : BitVec 32) (bs : List Byte) : BitVec 32 := bs.foldl crc32Byte c

/-- CRC32_STEP, either backend: per byte in both, as 42_crc32.md R175 and 44_dispatcher.md R216 allow (log 18). -/
def crc32Step (backend : Backend) (c : BitVec 32) (b : Byte) : BitVec 32 :=
  match backend with
  | .hw => crc32HwByte c b
  | .sw => crc32Byte c b

/-- CRC32_FINAL (42_crc32.md R177). -/
def crc32Final (c : BitVec 32) : BitVec 32 := c ^^^ 0xFFFFFFFF#32

/-- `CRC32(B)` (42_crc32.md R178). -/
def crc32Of (bs : List Byte) : BitVec 32 := crc32Final (bs.foldl crc32Byte crc32Init)

end Sys2Proof.Machine
end

