-- ==== Sys2Proof/Machine/Xxhash.lean ====
section
/-! DEFINITION. The bespoke xxHash64/128 mixer and finalizers, and their functions over a byte sequence (43_xxhash.md). -/

namespace Sys2Proof.Machine

/-- P1 (43_xxhash.md R190). -/
def prime1 : Word := BitVec.ofNat 64 11400714785074694791

/-- P2 (43_xxhash.md R190). -/
def prime2 : Word := BitVec.ofNat 64 14029467366897019727

/-- P3 (43_xxhash.md R190). -/
def prime3 : Word := BitVec.ofNat 64 1609587929392839161

/-- P4 (43_xxhash.md R190). -/
def prime4 : Word := BitVec.ofNat 64 9650029242287828579

/-- P5 (43_xxhash.md R190). -/
def prime5 : Word := BitVec.ofNat 64 2870177450012600261

/-- `rotl64(x, r)`, for 0 < r < 64 (00_scope.md R8). -/
def rotl64 (x : Word) (r : Nat) : Word := (x <<< r) ||| (x >>> (64 - r))

/-- XXH_INIT (43_xxhash.md R192). -/
def xxhInit : Word := prime5

/-- XXH_MIX (43_xxhash.md R191). -/
def xxhMix (acc : Word) (b : Byte) : Word := rotl64 (acc ^^^ (b.setWidth 64 * prime5)) 11 * prime1

/-- `Avalanche(a)` (43_xxhash.md R194). -/
def avalanche (a : Word) : Word :=
  let a1 := a ^^^ (a >>> 33)
  let a2 := a1 * prime2
  let a3 := a2 ^^^ (a2 >>> 29)
  let a4 := a3 * prime3
  a4 ^^^ (a4 >>> 32)

/-- XXH64_FINAL: RAW and the byte count N (43_xxhash.md R193). -/
def xxh64Final (raw n : Word) : Word := avalanche (raw ^^^ n)

/-- The high half of XXH128_FINAL, from RAW (43_xxhash.md R195, 90_conflicts.md C2). -/
def xxh128High (raw : Word) : Word := rotl64 (raw * prime1) 31 ^^^ prime4

/-- `XXRAW(B)` (43_xxhash.md R197). -/
def xxRawOf (bs : List Byte) : Word := bs.foldl xxhMix xxhInit

/-- `XXH64(B)` (43_xxhash.md R197). -/
def xxh64Of (bs : List Byte) : Word := xxh64Final (xxRawOf bs) (BitVec.ofNat 64 bs.length)

/-- The high half of `XXH128(B)` (43_xxhash.md R197). -/
def xxh128HighOf (bs : List Byte) : Word := xxh128High (xxRawOf bs)

/-- `XXH128(B)`, high half first (43_xxhash.md R197). -/
def xxh128Of (bs : List Byte) : BitVec 128 := xxh128HighOf bs ++ xxh64Of bs

end Sys2Proof.Machine
end

