-- ==== Sys2Proof/Machine/Engine.lean ====
section
/-! DEFINITION. The engine's own steps (00_scope.md R14): the build step of BUILD_TABLES, and the scan step and the
finalize step of HASH_STREAM. -/

namespace Sys2Proof.Machine

/-- The latching of a command's operands at acceptance (10_state.md R33). -/
def latchOperands (op : BitVec 4) (req : BitVec 5) (prog : Bool) (s : State) : State :=
  { s with lOp := op, lAddr := s.srcAddr, lLen := s.srcLen, lReq := req, lTag := routineTag req, lProg := prog }

/-- The build step: both tables whole, in one step (40_table_generator.md R134, R135). -/
def buildStep (s : State) : State :=
  { s with t16 := builtT16, t64 := builtT64, tablesValid := true, engineState := .done }

/-- The four updates of a scan step, each enabled by its bit of L_TAG, and the count (44_dispatcher.md R215). -/
def consumeByte (b : Byte) (s : State) : State :=
  { s with
    acc16 := if s.lTag.getLsbD 0 then crc16Step s.t16 s.acc16 b else s.acc16,
    acc32 := if s.lTag.getLsbD 1 then crc32Step s.backend s.acc32 b else s.acc32,
    acc64 := if s.lTag.getLsbD 2 then crc64Step s.t64 s.acc64 b else s.acc64,
    accXX := if s.lTag.getLsbD 3 then xxhMix s.accXX b else s.accXX,
    count := s.count + 1,
    scanned := s.scanned ++ [b] }

/-- A progress event is due at the new count (44_dispatcher.md R215, R222). -/
def progressDue (s : State) : Bool := s.lProg && progressPoint s.count.toNat s.lLen.toNat

/-- The progress event of a scan step, where one is due (44_dispatcher.md R215, R222). -/
def emitProgress (s : State) : State :=
  { s with
    progress := if progressDue s then s.count else s.progress,
    progressEvents := if progressDue s then s.progressEvents ++ [⟨s.count, s.lLen⟩] else s.progressEvents }

/-- One scan step (44_dispatcher.md R215); a byte that cannot be read ends the command (60_exceptions.md R254). -/
def scanStep (s : State) : State :=
  if scanReadable s then emitProgress (consumeByte (scanByte s) (afterScanRead s)) else raiseError .inputUnavailable s

/-- The finalize step (44_dispatcher.md R218). -/
def finalizeStep (s : State) : State :=
  { s with
    resCrc16 := if s.lReq.getLsbD 0 then s.acc16 else s.resCrc16,
    resCrc32 := if s.lReq.getLsbD 1 then crc32Final s.acc32 else s.resCrc32,
    resCrc64 := if s.lReq.getLsbD 2 then s.acc64 else s.resCrc64,
    resXxh64 := if s.lTag.getLsbD 3 && s.lReq.getLsbD 3 then xxh64Final s.accXX s.count else s.resXxh64,
    resXxh128Lo := if s.lTag.getLsbD 3 && s.lReq.getLsbD 4 then xxh64Final s.accXX s.count else s.resXxh128Lo,
    resXxh128Hi := if s.lTag.getLsbD 3 && s.lReq.getLsbD 4 then xxh128High s.accXX else s.resXxh128Hi,
    resElapsed := drawAt s 0,
    draws := s.draws + 1,
    resValid := s.lReq,
    engineState := .done }

/-- The engine's next step: none unless BUSY (60_exceptions.md R269), else the latched command's (00_scope.md R14,
44_dispatcher.md R212). -/
def engineStep (s : State) : Host.Outcome State Fault Refusal :=
  if s.engineState ≠ .busy then .next s
  else if s.lOp = opBuildTables then .next (buildStep s)
  else if s.lOp = opHashStream then .next (if s.count.toNat < s.lLen.toNat then scanStep s else finalizeStep s)
  else .fault .noRoutine

end Sys2Proof.Machine
end

