-- ==== Sys2Proof/Machine/BuildTables.lean ====
section
/-! DEFINITION. BUILD_TABLES (40_table_generator.md R134). -/

namespace Sys2Proof.Machine

/-- The acceptance of BUILD_TABLES, the results already cleared (40_table_generator.md R134): TABLES_VALID is cleared and
the command is latched (10_state.md R33, log 14). Its only check is the legality of its word (60_exceptions.md R257). -/
def acceptBuildTables (s : State) : State :=
  { latchOperands opBuildTables 0 false s with tablesValid := false, engineState := .busy, err := .none }

/-- BUILD_TABLES: its command word is written to CMD (40_table_generator.md R134, 44_dispatcher.md R210). The build step
follows as the engine's own (00_scope.md R14). -/
def execBuildTables (s : State) : Host.Outcome State Fault Refusal := .next (issueCommand acceptBuildTables s)

end Sys2Proof.Machine
end

