-- ==== Sys2Proof/Machine/HashStream.lean ====
section
/-! DEFINITION. HASH_STREAM (44_dispatcher.md R212). -/

namespace Sys2Proof.Machine

/-- The checks a HASH_STREAM of legal word meets, in order; the first that fails is reported (60_exceptions.md R257). -/
def hashStreamCheck (req : BitVec 5) (s : State) : ErrorCode :=
  if s.srcLen = 0 then .emptySource
  else if ¬ boundsOk s.unreadable s.srcAddr s.srcLen then .inputUnavailable
  else if needsTables req && !s.tablesValid then .tablesNotBuilt
  else .none

/-- The acceptance of a HASH_STREAM whose checks have passed (44_dispatcher.md R213). -/
def beginHashStream (req : BitVec 5) (prog : Bool) (s : State) : State :=
  { latchOperands opHashStream req prog s with
    acc16 := crc16Init, acc32 := crc32Init, acc64 := crc64Init, accXX := xxhInit, count := 0, engineState := .busy,
    mutated := [], scanned := [] }

/-- The acceptance of a HASH_STREAM, the results already cleared (44_dispatcher.md R210, R213; 60_exceptions.md R257). -/
def acceptHashStream (req : BitVec 5) (prog : Bool) (s : State) : State :=
  match hashStreamCheck req s with
  | .none => beginHashStream req prog s
  | code => raiseError code s

/-- HASH_STREAM: its command word is written to CMD (44_dispatcher.md R210, R212). The scan steps and the finalize step
follow as the engine's own (R214). -/
def execHashStream (req : BitVec 5) (prog : Bool) (s : State) : Host.Outcome State Fault Refusal :=
  .next (issueCommand (acceptHashStream req prog) s)

end Sys2Proof.Machine
end

