-- ==== Sys2Proof/Machine/RegAccess.lean ====
section
/-! DEFINITION. REG_READ and REG_WRITE (44_dispatcher.md R223, R224). -/

namespace Sys2Proof.Machine

/-- REG_READ: DATA is the register's value, and nothing else changes (44_dispatcher.md R223, 20_memory.md R65). A
misaligned offset is refused (R64). -/
def execRegRead (offset : BitVec 13) (s : State) : Host.Outcome State Fault Refusal :=
  if offsetAligned offset then .next { s with readData := readReg s (regAt offset) } else .refused .unalignedAccess

/-- The acceptance of the command word v, the results already cleared: decoded, then checked (44_dispatcher.md R210,
60_exceptions.md R257). An illegal word raises ILLEGAL_COMMAND (R255). -/
def acceptCommand (v : Word) (s : State) : State :=
  match decodeCommand v with
  | .ok .buildTables => acceptBuildTables s
  | .ok (.hashStream req prog) => acceptHashStream req prog s
  | .ok (.regRead _) => raiseError .illegalCommand s
  | .ok (.regWrite _ _) => raiseError .illegalCommand s
  | .error _ => raiseError .illegalCommand s

/-- A write of v to a register (20_memory.md R66): CMD takes a command, SRC_ADDR and SRC_LEN take the value, nothing else
is writable. -/
def writeReg (v : Word) (r : Reg) (s : State) : State :=
  match r with
  | .cmd => issueCommand (acceptCommand v) s
  | .srcAddr => writeSrcAddr v s
  | .srcLen => writeSrcLen v s
  | .caps => s
  | .status => s
  | .resCrc16 => s
  | .resCrc32 => s
  | .resCrc64 => s
  | .resXxh64 => s
  | .resXxh128Lo => s
  | .resXxh128Hi => s
  | .resElapsed => s
  | .progress => s
  | .crc16Table _ => s
  | .crc64Table _ => s
  | .reserved => s

/-- REG_WRITE (44_dispatcher.md R224). A misaligned offset is refused (20_memory.md R64). -/
def execRegWrite (offset : BitVec 13) (data : Word) (s : State) : Host.Outcome State Fault Refusal :=
  if offsetAligned offset then .next (writeReg data (regAt offset) s) else .refused .unalignedAccess

end Sys2Proof.Machine
end

