-- ==== Sys2Proof/Machine/Dispatch.lean ====
section
/-! DEFINITION. One arm per instruction. -/

namespace Sys2Proof.Machine

/-- The meaning of each instruction. -/
def exec (i : Instr) (s : State) : Host.Outcome State Fault Refusal :=
  match i with
  | .buildTables => Sys2Proof.Machine.execBuildTables s
  | .hashStream req prog => Sys2Proof.Machine.execHashStream req prog s
  | .regRead offset => Sys2Proof.Machine.execRegRead offset s
  | .regWrite offset data => Sys2Proof.Machine.execRegWrite offset data s

end Sys2Proof.Machine
end

