-- ==== Sys2Proof/Machine/HostStore.lean ====
section
/-! DEFINITION. A host store to host memory, and what it makes of a running scan: each byte the scan reads at an address
written during the scan is a draw, whether the store comes before the read or after it (20_memory.md R74, log 11). -/

namespace Sys2Proof.Machine

/-- ACC16 of the running scan, had it consumed the bytes `bs` (44_dispatcher.md R213, R215). -/
def acc16After (s : State) (bs : List Byte) : BitVec 16 :=
  if s.lTag.getLsbD 0 then bs.foldl (crc16Step s.t16) crc16Init else crc16Init

/-- ACC32 of the running scan, had it consumed the bytes `bs` (44_dispatcher.md R213, R215). -/
def acc32After (s : State) (bs : List Byte) : BitVec 32 :=
  if s.lTag.getLsbD 1 then bs.foldl (crc32Step s.backend) crc32Init else crc32Init

/-- ACC64 of the running scan, had it consumed the bytes `bs` (44_dispatcher.md R213, R215). -/
def acc64After (s : State) (bs : List Byte) : Word :=
  if s.lTag.getLsbD 2 then bs.foldl (crc64Step s.t64) crc64Init else crc64Init

/-- ACCXX of the running scan, had it consumed the bytes `bs` (44_dispatcher.md R213, R215). -/
def accXXAfter (s : State) (bs : List Byte) : Word :=
  if s.lTag.getLsbD 3 then bs.foldl xxhMix xxhInit else xxhInit

/-- Byte k of the running scan becomes a draw, in every accumulator that consumed it (20_memory.md R74). -/
def redrawByte (k : Nat) (s : State) : State :=
  let bs := s.scanned.set k ((drawAt s 0).setWidth 8)
  { s with
    scanned := bs, acc16 := acc16After s bs, acc32 := acc32After s bs, acc64 := acc64After s bs, accXX := accXXAfter s bs,
    draws := s.draws + 1 }

/-- The store itself: the byte in host memory, and its address remembered where it lies in the running ByteSource. -/
def recordStore (addr : Word) (byte : Byte) (s : State) : State :=
  { s with
    mem := Memory.write s.mem addr.toNat byte,
    mutated := if inRunningSource s addr && !s.mutated.contains addr then addr :: s.mutated else s.mutated }

/-- The place of an address in the ByteSource. -/
def sourceIndex (s : State) (addr : Word) : Nat := addr.toNat - s.lAddr.toNat

/-- The running scan has read the byte at the address, and not as a draw. -/
def readAsStored (s : State) (addr : Word) : Bool :=
  inRunningSource s addr && !s.mutated.contains addr && decide (sourceIndex s addr < s.count.toNat)

/-- A host store of one byte to its own memory (20_memory.md R61, R74). -/
def hostStore (addr : Word) (byte : Byte) (s : State) : State :=
  if readAsStored s addr then redrawByte (sourceIndex s addr) (recordStore addr byte s) else recordStore addr byte s

end Sys2Proof.Machine
end

