-- ==== Sys2Proof/Machine/Moves.lean ====
section
/-! DEFINITION. The moves of the agents (00_scope.md R13): a host transaction, a raw host access, an engine step, a host
store, a change of the platform's readability, and reset. -/

namespace Sys2Proof.Machine

/-- What becomes of a word that is no instruction. An illegal command word is still written to CMD, whose write raises
ILLEGAL_COMMAND or sets OVERRUN (30_encoding.md R101); a header that is not admitted is refused (20_memory.md R64). -/
def rejectWord (e : DecodeError) (w : HostWord) (s : State) : Host.Outcome State Fault Refusal :=
  match w with
  | .cmd v => execRegWrite (regOffset .cmd) v s
  | .bus _ _ =>
    match e with
    | .unalignedOffset => .refused .unalignedAccess
    | _ => .refused .reservedHeader

/-- The host's next word is decoded and run. -/
def runTransaction (w : HostWord) (s : State) : Host.Outcome State Fault Refusal :=
  match decode w with
  | .ok i => exec i s
  | .error e => rejectWord e w s

/-- The size of the register window, 8 KiB (10_state.md R20). -/
def windowBytes : Nat := 0x2000

/-- The host address lies in the register window. -/
def inWindow (addr : Word) : Bool :=
  decide (Config.regBase.toNat ≤ addr.toNat ∧ addr.toNat < Config.regBase.toNat + windowBytes)

/-- A raw access as a bus transaction, or why 20_memory.md R64 does not admit it. -/
def routeAccess (a : Access) : Except Refusal HostWord :=
  if a.bytes ≠ 8 then .error .accessWidth
  else if ¬ inWindow a.addr then .error .outsideWindow
  else if (a.addr.toNat - Config.regBase.toNat) % 8 ≠ 0 then .error .unalignedAccess
  else .ok (.bus (busHeader a.write (BitVec.ofNat 13 (a.addr.toNat - Config.regBase.toNat))) a.data)

/-- A raw access (20_memory.md R64). -/
def runAccess (a : Access) (s : State) : Host.Outcome State Fault Refusal :=
  match routeAccess a with
  | .ok w => runTransaction w s
  | .error r => .refused r

/-- A host store of one byte: to its own memory, and never into the window, which admits no byte access (20_memory.md
R64). -/
def runStore (addr : Word) (byte : Byte) (s : State) : Host.Outcome State Fault Refusal :=
  if inWindow addr then .refused .storeToWindow else .next (hostStore addr byte s)

/-- One move of an agent. -/
def runMove (m : Move) (s : State) : Host.Outcome State Fault Refusal :=
  match m with
  | .transaction w => runTransaction w s
  | .access a => runAccess a s
  | .engine => engineStep s
  | .store addr byte => runStore addr byte s
  | .setUnreadable regions => .next { s with unreadable := regions }

/-- One slot of time: a reset takes effect instead of the move it coincides with (60_exceptions.md R265). -/
def runSlot (slot : Slot) (s : State) : Host.Outcome State Fault Refusal :=
  if slot.resetAsserted then .next (applyReset s) else runMove slot.move s

/-- The slot in which the host performs one transaction and no reset asserts. -/
def transactionSlot (w : HostWord) : Slot := { resetAsserted := false, move := .transaction w }

end Sys2Proof.Machine
end

