-- ==== Sys2Proof/Machine/Step.lean ====
section
/-! DEFINITION. One step of the machine, and where it fetches its next instruction. -/

namespace Sys2Proof.Machine

/-- The next slot of the outside world's moves is taken and run; where none is left, only the engine moves (00_scope.md
R14, log 1). -/
def step (s : State) : Host.Outcome State Fault Refusal :=
  match s.schedule with
  | [] => engineStep s
  | slot :: rest => runSlot slot { s with schedule := rest }

/-- The state in which the host's next move is the transaction of this word of the opcode table: the engine has no
instruction memory (10_state.md R24), and a program is the host's sequence of transactions (log 2). -/
def State.withFetchWord (s : State) (nbits w : Nat) : State :=
  { s with schedule := transactionSlot (hostWordOfTable nbits w) :: s.schedule }

end Sys2Proof.Machine
end

