-- ==== Sys2Proof/Machine/DigestText.lean ====
section
/-! DEFINITION. The digest text encoding, which the host applies to the result registers (30_encoding.md R100), and the
algorithms of a request by name (R92). -/

namespace Sys2Proof.Machine

/-- The members of a ChecksumRequest, in the fixed reporting order (30_encoding.md R92). -/
inductive Algorithm where
  | crc16
  | crc32
  | crc64
  | xxh64
  | xxh128
deriving DecidableEq, Repr

/-- The algorithm's bit of REQ and of RES_VALID (30_encoding.md R92). -/
def algorithmBit : Algorithm → Nat
  | .crc16 => 0
  | .crc32 => 1
  | .crc64 => 2
  | .xxh64 => 3
  | .xxh128 => 4

/-- REQ of a set of algorithms (30_encoding.md R92). -/
def requestMask (algs : List Algorithm) : BitVec 5 := algs.foldl (fun m a => m ||| (1#5 <<< algorithmBit a)) 0

/-- An uppercase hexadecimal digit, of a value below 16. -/
def hexDigit (v : Nat) : Char := if v < 10 then Char.ofNat (48 + v) else Char.ofNat (55 + v)

/-- `digits` uppercase hexadecimal digits of v, the most significant first, zero-padded (30_encoding.md R100). -/
def hexText : Nat → Nat → List Char
  | 0, _ => []
  | digits + 1, v => hexText digits (v / 16) ++ [hexDigit (v % 16)]

/-- The text of an algorithm's digest, from the result registers (30_encoding.md R100). -/
def digestText (s : State) : Algorithm → List Char
  | .crc16 => hexText 4 s.resCrc16.toNat
  | .crc32 => hexText 8 s.resCrc32.toNat
  | .crc64 => hexText 16 s.resCrc64.toNat
  | .xxh64 => hexText 16 s.resXxh64.toNat
  | .xxh128 => hexText 16 s.resXxh128Hi.toNat ++ hexText 16 s.resXxh128Lo.toNat

end Sys2Proof.Machine
end

