-- ==== Sys2Proof/Machine/Assembler.lean ====
section
/-! DEFINITION. The host's assembler syntax and the expansions of its pseudo-instructions (30_encoding.md R99). -/

namespace Sys2Proof.Machine

/-- One source line (30_encoding.md R99). -/
inductive Line where
  | blank
  | wr (r : Reg) (v : Word)
  | rd (r : Reg)
  | src (a n : Word)
  | build
  | hash (algs : List Algorithm) (prog : Bool)
  | wait
  | check (r : Reg) (v : Word)
deriving DecidableEq, Repr

/-- REG_WRITE of a register. -/
def writeWord (r : Reg) (v : Word) : HostWord := encode (.regWrite (regOffset r) v)

/-- REG_READ of a register. -/
def readWord (r : Reg) : HostWord := encode (.regRead (regOffset r))

/-- The transactions of a line. WAIT repeats RD STATUS until its loop ends, so how often it reads is not fixed: `polls` is
the number of reads that come before the one that ends it (log 20). -/
def expandLine (polls : Nat) : Line → List HostWord
  | .blank => []
  | .wr r v => [writeWord r v]
  | .rd r => [readWord r]
  | .src a n => [writeWord .srcAddr a, writeWord .srcLen n]
  | .build => [writeWord .cmd (commandWord opBuildTables 0 false)]
  | .hash algs prog => [writeWord .cmd (commandWord opHashStream (requestMask algs) prog)]
  | .wait => List.replicate (polls + 1) (readWord .status)
  | .check r _ => [readWord r]

/-- WAIT's loop ends on a STATUS whose bits [1:0] are not 1 (30_encoding.md R99). -/
def waitEnds (status : Word) : Bool := status.extractLsb' 0 2 != 1#2

/-- What CHECK expects of the value its read returns (30_encoding.md R99); it has no effect on the engine. -/
def checkHolds (s : State) : Line → Bool
  | .check _ v => s.readData == v
  | _ => true

/-! ### The text of a line -/

/-- A word (letters, digits, underscore) or a punctuation mark. -/
inductive Token where
  | word (cs : List Char)
  | mark (c : Char)
deriving DecidableEq, Repr

/-- The opening brace. -/
def openBrace : Char := Char.ofNat 123

/-- The closing brace. -/
def closeBrace : Char := Char.ofNat 125

/-- The word read so far, its letters in reverse, becomes a token. -/
def flushWord (letters : List Char) (ts : List Token) : List Token :=
  if letters.isEmpty then ts else .word letters.reverse :: ts

/-- The tokens of a line; `;` begins a comment (30_encoding.md R99). -/
def lexLine : List Char → List Char → Option (List Token)
  | [], letters => some (flushWord letters [])
  | c :: cs, letters =>
    if c = ';' then some (flushWord letters [])
    else if c.isAlphanum || c == '_' then lexLine cs (c :: letters)
    else if c = ' ' || c = '\t' then (lexLine cs []).map (flushWord letters)
    else if c = ',' || c = '[' || c = ']' || c = openBrace || c = closeBrace then
      (lexLine cs []).map (fun ts => flushWord letters (.mark c :: ts))
    else none

/-- The value of a digit in the given base. -/
def digitValue (base : Nat) (c : Char) : Option Nat :=
  let v :=
    if '0' ≤ c ∧ c ≤ '9' then c.toNat - 48
    else if 'A' ≤ c ∧ c ≤ 'F' then c.toNat - 55
    else if 'a' ≤ c ∧ c ≤ 'f' then c.toNat - 87
    else base
  if v < base then some v else none

/-- Digits, the most significant first, onto a value already read. -/
def digitsValue (base : Nat) : List Char → Nat → Option Nat
  | [], acc => some acc
  | c :: cs, acc =>
    match digitValue base c with
    | some d => digitsValue base cs (acc * base + d)
    | none => none

/-- A value, decimal or `0x` hex (30_encoding.md R99), where it fits in 64 bits. -/
def numberOf (cs : List Char) : Option Word :=
  let n :=
    match cs with
    | '0' :: 'x' :: d :: ds => digitsValue 16 (d :: ds) 0
    | d :: ds => digitsValue 10 (d :: ds) 0
    | [] => none
  match n with
  | some v => if v < 2 ^ 64 then some (BitVec.ofNat 64 v) else none
  | none => none

/-- The names of 10_state.md R20, but for the table entries, which carry an index. -/
def registerNames : List (List Char × Reg) :=
  [("CAPS".toList, .caps), ("STATUS".toList, .status), ("CMD".toList, .cmd), ("SRC_ADDR".toList, .srcAddr),
   ("SRC_LEN".toList, .srcLen), ("RES_CRC16".toList, .resCrc16), ("RES_CRC32".toList, .resCrc32),
   ("RES_CRC64".toList, .resCrc64), ("RES_XXH64".toList, .resXxh64), ("RES_XXH128_LO".toList, .resXxh128Lo),
   ("RES_XXH128_HI".toList, .resXxh128Hi), ("RES_ELAPSED".toList, .resElapsed), ("PROGRESS".toList, .progress)]

/-- The names of the algorithms (30_encoding.md R92, R99). -/
def algorithmNames : List (List Char × Algorithm) :=
  [("CRC16".toList, .crc16), ("CRC32".toList, .crc32), ("CRC64".toList, .crc64), ("XXH64".toList, .xxh64),
   ("XXH128".toList, .xxh128)]

/-- The entry a name stands for. -/
def named {α : Type} : List (List Char × α) → List Char → Option α
  | [], _ => none
  | (n, x) :: rest, cs => if n = cs then some x else named rest cs

/-- A table index, 0 to 255. -/
def tableIndex (cs : List Char) : Option (BitVec 8) :=
  match numberOf cs with
  | some v => if v.toNat < 256 then some (v.setWidth 8) else none
  | none => none

/-- The register at the head of the tokens, and what follows it. -/
def parseReg : List Token → Option (Reg × List Token)
  | .word t :: .mark '[' :: .word i :: .mark ']' :: rest =>
    match tableIndex i with
    | none => none
    | some k =>
      if t = "CRC16_TABLE".toList then some (.crc16Table k, rest)
      else if t = "CRC64_TABLE".toList then some (.crc64Table k, rest)
      else none
  | .word n :: rest => (named registerNames n).map (fun r => (r, rest))
  | _ => none

/-- The algorithms up to the closing brace, and what follows it. -/
def parseAlgorithms : List Token → Option (List Algorithm × List Token)
  | .word a :: .mark c :: rest =>
    match named algorithmNames a with
    | none => none
    | some x =>
      if c = closeBrace then some ([x], rest)
      else if c = ',' then (parseAlgorithms rest).map (fun p => (x :: p.1, p.2))
      else none
  | _ => none

/-- A set of algorithms in braces, possibly empty, and what follows it. -/
def parseSet : List Token → Option (List Algorithm × List Token)
  | .mark o :: .mark c :: rest => if o = openBrace ∧ c = closeBrace then some ([], rest) else none
  | .mark o :: rest => if o = openBrace then parseAlgorithms rest else none
  | _ => none

/-- A register and a value after it. -/
def parseRegValue (ts : List Token) : Option (Reg × Word) :=
  match parseReg ts with
  | some (r, [.mark ',', .word v]) => (numberOf v).map (fun x => (r, x))
  | _ => none

/-- The source line these tokens are (30_encoding.md R99). -/
def parseTokens : List Token → Option Line
  | [] => some .blank
  | .mark _ :: _ => none
  | .word op :: rest =>
    if op = "WR".toList then (parseRegValue rest).map (fun p => .wr p.1 p.2)
    else if op = "CHECK".toList then (parseRegValue rest).map (fun p => .check p.1 p.2)
    else if op = "RD".toList then
      match parseReg rest with
      | some (r, []) => some (.rd r)
      | _ => none
    else if op = "SRC".toList then
      match rest with
      | [.word a, .mark ',', .word n] =>
        match numberOf a, numberOf n with
        | some x, some y => some (.src x y)
        | _, _ => none
      | _ => none
    else if op = "HASH".toList then
      match parseSet rest with
      | some (algs, []) => some (.hash algs false)
      | some (algs, [.mark ',', .word p]) => if p = "PROG".toList then some (.hash algs true) else none
      | _ => none
    else if op = "BUILD".toList then (if rest.isEmpty then some .build else none)
    else if op = "WAIT".toList then (if rest.isEmpty then some .wait else none)
    else none

/-- The source line a text is, or none where it is no line of 30_encoding.md R99. -/
def parseLine (text : String) : Option Line :=
  match lexLine text.toList [] with
  | some ts => parseTokens ts
  | none => none

end Sys2Proof.Machine
end

