-- ==== Sys2Proof/Safety.lean ====
section
/-! DEFINITION. What counts as a good state and a good run, in the terms the claims use. -/

namespace Sys2Proof.Machine

/-- The bytes of a ByteSource in ascending order: those at addr, addr + 1, ..., addr + len - 1 (20_memory.md R61). -/
def sourceBytes (mem : List Host.Cell) (addr len : Nat) : List Byte :=
  (List.range len).map (fun i => Memory.read mem (addr + i))

/-- Every byte of the range can be read: none lies in an unreadable region (00_scope.md R6 `Readable`, said byte by byte). -/
def everyByteReadable (unreadable : List Region) (addr len : Nat) : Prop :=
  ∀ a, addr ≤ a → a < addr + len → ∀ r ∈ unreadable, ¬ (r.base ≤ a ∧ a < r.base + r.size)

/-- The next move, where the schedule has one, comes with a reset (70_reset_and_hazards.md R280). -/
def resetNext (s : State) : Bool :=
  match s.schedule with
  | [] => false
  | slot :: _ => slot.resetAsserted

/-- The next move is a host store, and no reset takes its place. -/
def storeNext (s : State) : Bool :=
  match s.schedule with
  | ⟨false, .store _ _⟩ :: _ => true
  | _ => false

/-- The next move is a host transaction or a raw access, and no reset takes its place. -/
def hostAccessNext (s : State) : Bool :=
  match s.schedule with
  | ⟨false, .transaction _⟩ :: _ => true
  | ⟨false, .access _⟩ :: _ => true
  | _ => false

/-- The next move is the engine's own step: the schedule gives it, or is empty, and no reset takes its place. -/
def engineNext (s : State) : Bool :=
  match s.schedule with
  | [] => true
  | ⟨false, .engine⟩ :: _ => true
  | _ => false

/-- A digest may be read: DONE, and its RES_VALID bit is 1 (70_reset_and_hazards.md R287). -/
def digestReady (s : State) (bit : Nat) : Bool := s.engineState == .done && s.resValid.getLsbD bit

/-- The host's duties have been kept so far: no command overlap (70_reset_and_hazards.md R284) and no mutation of the running
ByteSource (R285). -/
def hostDutiesKept (s : State) : Bool := !s.overrun && s.mutated.isEmpty

/-- What holds in every state a run reaches. -/
structure State.Inv (s : State) : Prop where
  /-- Host memory is in its canonical form. -/
  memWf : Memory.wf s.mem
  /-- ERR is NONE unless STATE is ERROR, and nonzero then (10_state.md R22). -/
  errNone : s.err = .none ↔ s.engineState ≠ .error
  /-- RES_VALID is nonzero only in DONE (10_state.md R22). -/
  resValidDone : s.resValid ≠ 0 → s.engineState = .done
  /-- Every result register is 0 unless DONE (70_reset_and_hazards.md R287). -/
  resultsClear : s.engineState ≠ .done →
    s.resCrc16 = 0 ∧ s.resCrc32 = 0 ∧ s.resCrc64 = 0 ∧ s.resXxh64 = 0 ∧ s.resXxh128Lo = 0 ∧ s.resXxh128Hi = 0 ∧
      s.resElapsed = 0
  /-- A result register whose RES_VALID bit is 0 holds 0 (10_state.md R28, 44_dispatcher.md R221). -/
  resultsValid :
    (s.resValid.getLsbD 0 = false → s.resCrc16 = 0) ∧ (s.resValid.getLsbD 1 = false → s.resCrc32 = 0) ∧
    (s.resValid.getLsbD 2 = false → s.resCrc64 = 0) ∧ (s.resValid.getLsbD 3 = false → s.resXxh64 = 0) ∧
    (s.resValid.getLsbD 4 = false → s.resXxh128Lo = 0 ∧ s.resXxh128Hi = 0)
  /-- A running command is BUILD_TABLES or HASH_STREAM (30_encoding.md R91). -/
  busyOp : s.engineState = .busy → s.lOp = opBuildTables ∨ s.lOp = opHashStream
  /-- TABLES_VALID is 0 while the tables are built (40_table_generator.md R134). -/
  buildClear : s.engineState = .busy → s.lOp = opBuildTables → s.tablesValid = false
  /-- A running HASH_STREAM has a ByteSource that does not wrap, counts no further than its length (10_state.md R24), runs the
  routine of its request (30_encoding.md R95) and has the tables it needs (20_memory.md R77). -/
  hashRunning : s.engineState = .busy → s.lOp = opHashStream →
    s.lLen ≠ 0 ∧ s.count.toNat ≤ s.lLen.toNat ∧ s.lAddr.toNat + s.lLen.toNat ≤ addressSpace ∧
      s.lTag = routineTag s.lReq ∧ (needsTables s.lReq = true → s.tablesValid = true)
  /-- The accumulators of a running HASH_STREAM are those of the bytes it has consumed, N of them (44_dispatcher.md R213,
  R215). -/
  scanFold : s.engineState = .busy → s.lOp = opHashStream →
    s.scanned.length = s.count.toNat ∧ s.acc16 = acc16After s s.scanned ∧ s.acc32 = acc32After s s.scanned ∧
      s.acc64 = acc64After s s.scanned ∧ s.accXX = accXXAfter s s.scanned
  /-- Each byte a running HASH_STREAM has consumed is what host memory holds, unless the host has stored to it during the
  scan (20_memory.md R63, R74). -/
  scanBytes : s.engineState = .busy → s.lOp = opHashStream → ∀ i, i < s.count.toNat →
    BitVec.ofNat 64 (s.lAddr.toNat + i) ∉ s.mutated → s.scanned[i]? = some (Memory.read s.mem (s.lAddr.toNat + i))
  /-- While TABLES_VALID is 1 the tables hold what BUILD_TABLES writes (10_state.md R22, R36). -/
  tablesBuilt : s.tablesValid = true → s.t16 = builtT16 ∧ s.t64 = builtT64
  /-- BACKEND is what reset selected (10_state.md R37). -/
  backendFixed : s.backend = selectBackend Config.hasHwCrc32

end Sys2Proof.Machine
end

