-- ==== Sys2Proof/Certificates/Slice0/Obligations.lean ====
section
/-! DEFINITION. The statements for the provers, each from the rules of spec/ its docstring names, and the few helper
functions they are written with. -/

open Sys2Proof Sys2Proof.Machine

/-! ### Helper functions of the statements -/

/-- STATUS as a number, by the places of 10_state.md R22 and the codes of R23 and 60_exceptions.md R250. -/
def Sys2Proof.Claims.statusNumber (s : State) : Nat :=
  (match s.engineState with | .idle => 0 | .busy => 1 | .done => 2 | .error => 3) +
  16 * (match s.err with
    | .none => 0 | .inputUnavailable => 1 | .emptySource => 2 | .tablesNotBuilt => 3 | .illegalCommand => 4) +
  256 * (if s.tablesValid then 1 else 0) + 512 * (if s.overrun then 1 else 0) + 65536 * s.resValid.toNat

/-- CAPS as a number, by the places of 10_state.md R21. -/
def Sys2Proof.Claims.capsNumber (s : State) : Nat :=
  (if Config.hasHwCrc32 then 1 else 0) + 2 * (if s.backend = .hw then 1 else 0) + 16 * 8

/-- What a read at byte offset o of the window returns, by the table of 10_state.md R20. -/
def Sys2Proof.Claims.windowValue (s : State) (o : Nat) : Word :=
  if o = 0x000 then BitVec.ofNat 64 (Claims.capsNumber s)
  else if o = 0x008 then BitVec.ofNat 64 (Claims.statusNumber s)
  else if o = 0x010 then 0
  else if o = 0x018 then s.srcAddr
  else if o = 0x020 then s.srcLen
  else if o = 0x028 then BitVec.ofNat 64 s.resCrc16.toNat
  else if o = 0x030 then BitVec.ofNat 64 s.resCrc32.toNat
  else if o = 0x038 then s.resCrc64
  else if o = 0x040 then s.resXxh64
  else if o = 0x048 then s.resXxh128Lo
  else if o = 0x050 then s.resXxh128Hi
  else if o = 0x058 then s.resElapsed
  else if o = 0x060 then s.progress
  else if 0x800 ≤ o ∧ o ≤ 0xFF8 then
    (if s.tablesValid then BitVec.ofNat 64 (s.t16[(o - 0x800) / 8]?.getD 0).toNat else 0)
  else if 0x1000 ≤ o ∧ o ≤ 0x17F8 then (if s.tablesValid then s.t64[(o - 0x1000) / 8]?.getD 0 else 0)
  else 0

/-- What acceptance clears (44_dispatcher.md R211). -/
def Sys2Proof.Claims.cleared (s : State) : State :=
  { s with
    resCrc16 := 0, resCrc32 := 0, resCrc64 := 0, resXxh64 := 0, resXxh128Lo := 0, resXxh128Hi := 0, resElapsed := 0,
    progress := 0, resValid := 0, err := .none }

/-- OP of a command word as a number (30_encoding.md R90). -/
def Sys2Proof.Claims.opNumber (v : Word) : Nat := v.toNat % 16

/-- The three ways a command word is illegal (30_encoding.md R101), on the word as a number: OP is its lowest four bits, RSV
what stands above bit 9, and REQ and PROG_EN lie between. -/
def Sys2Proof.Claims.illegalWord (v : Word) : Prop :=
  (v.toNat % 16 ≠ 1 ∧ v.toNat % 16 ≠ 2) ∨ v.toNat / 2 ^ 10 ≠ 0 ∨ (v.toNat % 16 = 1 ∧ v.toNat / 16 % 2 ^ 6 ≠ 0)

/-- The bounds check of SRC_ADDR and SRC_LEN (20_memory.md R62). -/
def Sys2Proof.Claims.sourceInBounds (s : State) : Prop :=
  everyByteReadable s.unreadable s.srcAddr.toNat s.srcLen.toNat ∧ s.srcAddr.toNat + s.srcLen.toNat ≤ 2 ^ 64

/-- The ASCII bytes of "123456789" (95_test_vectors.md). -/
def Sys2Proof.Claims.checkBytes : List Byte := [0x31, 0x32, 0x33, 0x34, 0x35, 0x36, 0x37, 0x38, 0x39]

/-- k steps of the machine, as the host's interface runs them. -/
def Sys2Proof.Claims.runSteps (k : Nat) (s : State) : Host.Outcome State Fault Refusal := Host.Core.run Sys2Proof.core k s

/-- The value a hexadecimal text stands for, the most significant digit first. -/
def Sys2Proof.Claims.textValue (cs : List Char) : Nat :=
  cs.foldl (fun v c => 16 * v + (if c.toNat < 58 then c.toNat - 48 else c.toNat - 55)) 0

/-- An uppercase hexadecimal digit. -/
def Sys2Proof.Claims.isHexDigit (c : Char) : Prop := (48 ≤ c.toNat ∧ c.toNat ≤ 57) ∨ (65 ≤ c.toNat ∧ c.toNat ≤ 70)

/-- The byte offset of a named register, by the table of 10_state.md R20; the reserved offsets have no name. -/
def Sys2Proof.Claims.registerOffset : Reg → Nat
  | .caps => 0x000
  | .status => 0x008
  | .cmd => 0x010
  | .srcAddr => 0x018
  | .srcLen => 0x020
  | .resCrc16 => 0x028
  | .resCrc32 => 0x030
  | .resCrc64 => 0x038
  | .resXxh64 => 0x040
  | .resXxh128Lo => 0x048
  | .resXxh128Hi => 0x050
  | .resElapsed => 0x058
  | .progress => 0x060
  | .crc16Table i => 0x800 + 8 * i.toNat
  | .crc64Table i => 0x1000 + 8 * i.toNat
  | .reserved => 0x068

/-! ### The statements -/

/-- Sample words of every row decode to their instructions (30_encoding.md section 1, 30_encoding.md section 3, 95_test_vectors.md V-REG). -/
def Obligations.DecodeSampleWords : Prop :=
  decode (.cmd 0x1) = .ok .buildTables ∧
  decode (.cmd 0x1F2) = .ok (.hashStream 0x1F false) ∧
  decode (.cmd 0x302) = .ok (.hashStream 0x10 true) ∧
  decode (.bus 0x0808 0) = .ok (.regRead 0x808) ∧
  decode (.bus 0x8018 0x1000) = .ok (.regWrite 0x018 0x1000) ∧
  decode (.bus 0x8010 0x1) = .ok (.regWrite 0x010 0x1)

/-- Decoding the encoding of a well-formed instruction gives it back (30_encoding.md section 1, 30_encoding.md section 3). -/
def Obligations.DecodeEncodeRoundTrip : Prop :=
  ∀ i : Instr, i.wellFormed = true → decode (encode i) = .ok i

/-- A word that decodes is the encoding of what it decodes to (30_encoding.md section 1, 30_encoding.md section 3). -/
def Obligations.DecodedWordsReencode : Prop :=
  (∀ (v : Word) (i : Instr), decode (.cmd v) = .ok i → i.wellFormed = true ∧ encode i = .cmd v) ∧
  (∀ (h : BitVec 16) (d : Word) (i : Instr), decode (.bus h d) = .ok i →
    i.wellFormed = true ∧ ∃ d', encode i = .bus h d' ∧ (h.getLsbD 15 = true → d' = d))

/-- The command words the decoder rejects are exactly the illegal ones (30_encoding.md section 6). -/
def Obligations.IllegalCommandWordsExactly : Prop :=
  ∀ v : Word, (∃ e, decode (.cmd v) = .error e) ↔ Claims.illegalWord v

/-- BUILD_TABLES has exactly one legal word (R93). -/
def Obligations.BuildTablesHasOneWord : Prop :=
  ∀ v : Word, (decode (.cmd v) = .ok .buildTables ↔ v = 1) ∧
    (v.extractLsb' 0 4 = 1#4 → v ≠ 1 → ∃ e, decode (.cmd v) = .error e)

/-- The routine tag adds XXH64 to XXH128, and exactly 24 tags occur (R95). -/
def Obligations.RoutineTagsCollapse : Prop :=
  (∀ req : BitVec 5, routineTag req = req ||| (if req.getLsbD 4 then 0x08#5 else 0x00#5)) ∧
  (∀ tag : BitVec 5, (∃ req : BitVec 5, routineTag req = tag) ↔ tag.toNat ≤ 0x0F ∨ 0x18 ≤ tag.toNat)

/-- A step runs the instruction the next transaction decodes to (30_encoding.md section 3, 00_scope.md section 7). -/
def Obligations.StepRunsDecodedInstruction : Prop :=
  ∀ (s : State) (w : HostWord) (i : Instr) (rest : List Slot), s.schedule = ⟨false, .transaction w⟩ :: rest →
    decode w = .ok i → step s = exec i { s with schedule := rest }

/-- A word of the opcode table placed as the next transaction runs at the next step (30_encoding.md section 3, 30_encoding.md section 4). -/
def Obligations.TableWordRunsNext : Prop :=
  ∀ (s : State) (nbits w : Nat) (i : Instr), decodeTableWord nbits w = some i → step (s.withFetchWord nbits w) = exec i s

/-- Issuing a command word is a write of it to CMD (30_encoding.md section 3, 10_state.md section 1). -/
def Obligations.CommandWordIsWriteToCmd : Prop :=
  ∀ (s : State) (v : Word), runMove (.transaction (.cmd v)) s = runMove (.transaction (.bus 0x8010 v)) s ∧
    (∀ i, decode (.cmd v) = .ok i → exec (.regWrite 0x010 v) s = exec i s)

/-- Without a running command the engine changes nothing (R269). -/
def Obligations.EngineWaitsUnlessBusy : Prop :=
  ∀ s : State, s.engineState ≠ .busy →
    runMove .engine s = .next s ∧ (s.schedule = [] → step s = .next s)

/-- A reset aborts whatever runs, takes the place of the move, and writes no host memory (70_reset_and_hazards.md section 1,
60_exceptions.md section 2). That a host store or a change of readability is discarded too is the model's reading: log 21;
that what is outside the engine stays is log 9. -/
def Obligations.ResetTakesEffectInsteadOfMove : Prop :=
  ∀ (s : State) (m : Move) (rest : List Slot), s.schedule = ⟨true, m⟩ :: rest →
    ∃ t, step s = .next t ∧ t.engineState = .idle ∧ t.err = .none ∧ t.tablesValid = false ∧ t.overrun = false ∧
      t.resValid = 0 ∧ t.srcAddr = 0 ∧ t.srcLen = 0 ∧ t.resCrc16 = 0 ∧ t.resCrc32 = 0 ∧ t.resCrc64 = 0 ∧ t.resXxh64 = 0 ∧
      t.resXxh128Lo = 0 ∧ t.resXxh128Hi = 0 ∧ t.resElapsed = 0 ∧ t.progress = 0 ∧
      t.backend = (if Config.hasHwCrc32 then .hw else .sw) ∧
      t.mem = s.mem ∧ t.unreadable = s.unreadable ∧ t.progressEvents = s.progressEvents ∧ t.schedule = rest

/-- The state right after reset holds the values the spec gives (R41). -/
def Obligations.ResetStateValues : Prop :=
  State.reset.engineState = .idle ∧ State.reset.err = .none ∧ State.reset.tablesValid = false ∧
  State.reset.overrun = false ∧ State.reset.resValid = 0 ∧ State.reset.srcAddr = 0 ∧ State.reset.srcLen = 0 ∧
  State.reset.resCrc16 = 0 ∧ State.reset.resCrc32 = 0 ∧ State.reset.resCrc64 = 0 ∧ State.reset.resXxh64 = 0 ∧
  State.reset.resXxh128Lo = 0 ∧ State.reset.resXxh128Hi = 0 ∧ State.reset.resElapsed = 0 ∧ State.reset.progress = 0 ∧
  State.reset.backend = (if Config.hasHwCrc32 then .hw else .sw) ∧
  exec (.regRead 0x000) State.reset =
    .next { State.reset with readData := if Config.hasHwCrc32 then 0x83#64 else 0x80#64 }

/-- Every well-formed instruction answers a next state, and no other does (44_dispatcher.md section 3, 20_memory.md section 2,
44_dispatcher.md section 1). -/
def Obligations.EveryWellFormedInstructionCompletes : Prop :=
  ∀ (i : Instr) (s : State), (i.wellFormed = true → ∃ t, exec i s = .next t) ∧
    (i.wellFormed = false → exec i s = .refused .unalignedAccess)

/-- Only aligned 64-bit accesses inside the window are admitted; every other is refused (R64). -/
def Obligations.WindowAdmitsAlignedWordAccesses : Prop :=
  ∀ (s : State) (a : Access),
    (a.bytes ≠ 8 → runMove (.access a) s = .refused .accessWidth) ∧
    (a.bytes = 8 → (a.addr.toNat < Config.regBase.toNat ∨ Config.regBase.toNat + 0x2000 ≤ a.addr.toNat) →
      runMove (.access a) s = .refused .outsideWindow) ∧
    (a.bytes = 8 → Config.regBase.toNat ≤ a.addr.toNat → a.addr.toNat < Config.regBase.toNat + 0x2000 →
      ((a.addr.toNat - Config.regBase.toNat) % 8 ≠ 0 → runMove (.access a) s = .refused .unalignedAccess) ∧
      ((a.addr.toNat - Config.regBase.toNat) % 8 = 0 →
        runMove (.access a) s =
          exec (if a.write then .regWrite (BitVec.ofNat 13 (a.addr.toNat - Config.regBase.toNat)) a.data
            else .regRead (BitVec.ofNat 13 (a.addr.toNat - Config.regBase.toNat))) s))

/-- A bus header with nonzero bits [14:13] or a misaligned offset is refused (30_encoding.md section 3, 30_encoding.md
section 6, 20_memory.md section 2). -/
def Obligations.UnadmittedHeadersRefused : Prop :=
  ∀ (s : State) (h : BitVec 16) (d : Word),
    (h.extractLsb' 13 2 ≠ 0#2 → runMove (.transaction (.bus h d)) s = .refused .reservedHeader) ∧
    (h.extractLsb' 13 2 = 0#2 → h.extractLsb' 0 3 ≠ 0#3 → runMove (.transaction (.bus h d)) s = .refused .unalignedAccess) ∧
    (h.extractLsb' 13 2 = 0#2 → h.extractLsb' 0 3 = 0#3 → ∃ t, runMove (.transaction (.bus h d)) s = .next t)

/-- REG_READ returns the register at its offset and changes nothing else (R223, R65). -/
def Obligations.RegReadReturnsEveryRegister : Prop :=
  ∀ (s : State) (offset : BitVec 13),
    (offset.toNat % 8 = 0 →
      exec (.regRead offset) s = .next { s with readData := Claims.windowValue s offset.toNat }) ∧
    (offset.toNat % 8 ≠ 0 → exec (.regRead offset) s = .refused .unalignedAccess)

/-- CAPS reads 0x83 or 0x80 and no step or write changes it (10_state.md section 1, 10_state.md section 2). -/
def Obligations.CapsIsConstant : Prop :=
  (∀ s : State, s.backend = selectBackend Config.hasHwCrc32 →
    exec (.regRead 0x000) s = .next { s with readData := if Config.hasHwCrc32 then 0x83#64 else 0x80#64 }) ∧
  State.reset.backend = selectBackend Config.hasHwCrc32 ∧
  (∀ s t : State, step s = .next t → s.backend = selectBackend Config.hasHwCrc32 →
    t.backend = selectBackend Config.hasHwCrc32) ∧
  (∀ (s : State) (d : Word), exec (.regWrite 0x000 d) s = .next s)

/-- REG_WRITE: what a write to each offset does (R66). -/
def Obligations.RegWriteEffects : Prop :=
  ∀ (s : State) (offset : BitVec 13) (v : Word),
    (offset.toNat % 8 ≠ 0 → exec (.regWrite offset v) s = .refused .unalignedAccess) ∧
    (offset = 0x010 ∨ offset = 0x018 ∨ offset = 0x020 → s.engineState = .busy →
      exec (.regWrite offset v) s = .next { s with overrun := true }) ∧
    (offset = 0x018 → s.engineState ≠ .busy → exec (.regWrite offset v) s = .next { s with srcAddr := v }) ∧
    (offset = 0x020 → s.engineState ≠ .busy → exec (.regWrite offset v) s = .next { s with srcLen := v }) ∧
    (offset = 0x010 → s.engineState ≠ .busy →
      exec (.regWrite offset v) s =
        match decode (.cmd v) with
        | .ok i => exec i s
        | .error _ => .next { Claims.cleared s with engineState := .error, err := .illegalCommand }) ∧
    (offset.toNat % 8 = 0 → offset ≠ 0x010 → offset ≠ 0x018 → offset ≠ 0x020 → exec (.regWrite offset v) s = .next s)

/-- SRC_ADDR and SRC_LEN: written unless BUSY, read back, kept, 0 after reset, latched (R26, R27). -/
def Obligations.SourceRegistersHoldTheByteSource : Prop :=
  (∀ (s : State) (v : Word), s.engineState ≠ .busy →
    exec (.regWrite 0x018 v) s = .next { s with srcAddr := v } ∧
    exec (.regRead 0x018) { s with srcAddr := v } = .next { s with srcAddr := v, readData := v } ∧
    exec (.regWrite 0x020 v) s = .next { s with srcLen := v } ∧
    exec (.regRead 0x020) { s with srcLen := v } = .next { s with srcLen := v, readData := v }) ∧
  (∀ (s : State) (v : Word), s.engineState = .busy →
    exec (.regWrite 0x018 v) s = .next { s with overrun := true } ∧
    exec (.regWrite 0x020 v) s = .next { s with overrun := true }) ∧
  (State.reset.srcAddr = 0 ∧ State.reset.srcLen = 0) ∧
  (∀ s t : State, step s = .next t → resetNext s = false → hostAccessNext s = false →
    t.srcAddr = s.srcAddr ∧ t.srcLen = s.srcLen) ∧
  (∀ (s t : State) (req : BitVec 5) (prog : Bool), s.engineState ≠ .busy → exec (.hashStream req prog) s = .next t →
    t.engineState = .busy → t.lAddr = s.srcAddr ∧ t.lLen = s.srcLen)

/-- A write of CMD, SRC_ADDR or SRC_LEN while BUSY only sets OVERRUN, which only reset clears (R38). -/
def Obligations.OverrunIsSetAndSticky : Prop :=
  (∀ s : State, s.engineState = .busy →
    exec .buildTables s = .next { s with overrun := true } ∧
    (∀ req prog, exec (.hashStream req prog) s = .next { s with overrun := true }) ∧
    (∀ v, exec (.regWrite 0x010 v) s = .next { s with overrun := true } ∧
      exec (.regWrite 0x018 v) s = .next { s with overrun := true } ∧
      exec (.regWrite 0x020 v) s = .next { s with overrun := true })) ∧
  (∀ s t : State, step s = .next t → s.overrun = true → t.overrun = !resetNext s)

/-- An illegal command word ends in ERROR with only the results cleared (R255). -/
def Obligations.IllegalCommandWriteRaises : Prop :=
  ∀ (s : State) (v : Word), s.engineState ≠ .busy → Claims.illegalWord v →
    exec (.regWrite 0x010 v) s =
      .next { s with
        resCrc16 := 0, resCrc32 := 0, resCrc64 := 0, resXxh64 := 0, resXxh128Lo := 0, resXxh128Hi := 0, resElapsed := 0,
        progress := 0, resValid := 0, engineState := .error, err := .illegalCommand } ∧
    runMove (.transaction (.cmd v)) s = exec (.regWrite 0x010 v) s

/-- BUILD_TABLES, accepted: results cleared, TABLES_VALID cleared, BUSY (40_table_generator.md section 2, 10_state.md section 2, 44_dispatcher.md section 1). -/
def Obligations.BuildTablesAccepted : Prop :=
  ∀ s : State, s.engineState ≠ .busy →
    exec .buildTables s =
      .next { s with
        resCrc16 := 0, resCrc32 := 0, resCrc64 := 0, resXxh64 := 0, resXxh128Lo := 0, resXxh128Hi := 0, resElapsed := 0,
        progress := 0, resValid := 0, err := .none, tablesValid := false, engineState := .busy,
        lOp := 1, lAddr := s.srcAddr, lLen := s.srcLen, lReq := 0, lTag := 0, lProg := false }

/-- One engine step writes both tables whole; until then the windows read 0 (R135). -/
def Obligations.BuildStepWritesWholeTables : Prop :=
  (∀ s : State, s.engineState = .busy → s.lOp = 1#4 →
    ∃ t, engineStep s = .next t ∧ t = { s with t16 := t.t16, t64 := t.t64, tablesValid := true, engineState := .done } ∧
      (∀ b : BitVec 8, tableAt t.t16 b = tableEntry 0x1021#16 b ∧ tableAt t.t64 b = tableEntry 0x42F0E1EBA9EA3693#64 b)) ∧
  (∀ (s : State) (i : BitVec 8), s.tablesValid = false →
    exec (.regRead (BitVec.ofNat 13 (0x800 + 8 * i.toNat))) s = .next { s with readData := 0 } ∧
    exec (.regRead (BitVec.ofNat 13 (0x1000 + 8 * i.toNat))) s = .next { s with readData := 0 })

/-- BUILD_TABLES, run: BUSY, then DONE with both tables valid and readable (40_table_generator.md section 2). -/
def Obligations.BuildTablesRunsToDone : Prop :=
  ∀ s : State, s.engineState ≠ .busy → s.schedule = [] →
    ∃ t u, exec .buildTables s = .next t ∧ t.engineState = .busy ∧ t.tablesValid = false ∧ step t = .next u ∧
      u.engineState = .done ∧ u.err = .none ∧ u.tablesValid = true ∧ u.resValid = 0 ∧ u.resCrc16 = 0 ∧ u.resCrc32 = 0 ∧
      u.resCrc64 = 0 ∧ u.resXxh64 = 0 ∧ u.resXxh128Lo = 0 ∧ u.resXxh128Hi = 0 ∧ u.resElapsed = 0 ∧ u.progress = 0 ∧
      u.progressEvents = s.progressEvents ∧
      u.srcAddr = s.srcAddr ∧ u.srcLen = s.srcLen ∧ u.overrun = s.overrun ∧ u.mem = s.mem ∧
      (∀ b : BitVec 8,
        exec (.regRead (BitVec.ofNat 13 (0x800 + 8 * b.toNat))) u =
          .next { u with readData := BitVec.ofNat 64 (tableEntry 0x1021#16 b).toNat } ∧
        exec (.regRead (BitVec.ofNat 13 (0x1000 + 8 * b.toNat))) u =
          .next { u with readData := tableEntry 0x42F0E1EBA9EA3693#64 b })

/-- No step but those of BUILD_TABLES and reset changes the tables or TABLES_VALID (R136). -/
def Obligations.TablesWrittenOnlyByBuild : Prop :=
  ∀ s t : State, step s = .next t →
    (resetNext s = false → ¬ (engineNext s = true ∧ s.engineState = .busy ∧ s.lOp = 1#4) →
      t.t16 = s.t16 ∧ t.t64 = s.t64 ∧
      (t.tablesValid = s.tablesValid ∨
        (hostAccessNext s = true ∧ s.engineState ≠ .busy ∧ t.engineState = .busy ∧ t.lOp = 1#4 ∧ t.tablesValid = false))) ∧
    (resetNext s = true → t.tablesValid = false)

/-- Known entries of both tables (40_table_generator.md section 1, 95_test_vectors.md V-TBL-16, 95_test_vectors.md V-TBL-64). -/
def Obligations.TableEntriesKnown : Prop :=
  tableAt builtT16 0x00 = 0x0000#16 ∧ tableAt builtT16 0x01 = 0x1021#16 ∧ tableAt builtT16 0x80 = 0x9188#16 ∧
  tableAt builtT16 0xBE = 0x4615#16 ∧ tableAt builtT16 0xFF = 0x1EF0#16 ∧
  tableAt builtT64 0x00 = 0x0000000000000000#64 ∧ tableAt builtT64 0x01 = 0x42F0E1EBA9EA3693#64 ∧
  tableAt builtT64 0x80 = 0xF6FAE5C07D3274CD#64 ∧ tableAt builtT64 0xFF = 0x9AFCE626CE85B507#64

/-- Both lookup tables are linear over XOR (40_table_generator.md section 1). -/
def Obligations.TablesAreLinear : Prop :=
  ∀ a b : BitVec 8, tableAt builtT16 (a ^^^ b) = tableAt builtT16 a ^^^ tableAt builtT16 b ∧
    tableAt builtT64 (a ^^^ b) = tableAt builtT64 a ^^^ tableAt builtT64 b

/-- The CRC-16 table step is the eight-step bitwise form (41_crc16_crc64.md section 1). -/
def Obligations.Crc16StepIsBitwise : Prop :=
  ∀ (acc : BitVec 16) (b : Byte), crc16Step builtT16 acc b = crc16Bitwise acc b

/-- The CRC-64 table step is the eight-step bitwise form (41_crc16_crc64.md section 2). -/
def Obligations.Crc64StepIsBitwise : Prop :=
  ∀ (acc : Word) (b : Byte), crc64Step builtT64 acc b = crc64Bitwise acc b

/-- The CRC-32 table form equals the bitwise byte function (42_crc32.md section 1). -/
def Obligations.Crc32TableFormIsBitwise : Prop :=
  ∀ (c : BitVec 32) (b : Byte), crc32ByteTable c b = crc32Byte c b

/-- The hardware chunk schedule and the software byte loop compute one function (42_crc32.md section 2). -/
def Obligations.HardwareScanEqualsSoftwareScan : Prop :=
  ∀ (c : BitVec 32) (bs : List Byte), crc32HwScan c bs = crc32SwScan c bs

/-- The five digests of "123456789" are the listed values (95_test_vectors.md V-DISP-1, 41_crc16_crc64.md sections 1
and 2, 42_crc32.md section 3, 43_xxhash.md section 4). -/
def Obligations.DigestCheckValues : Prop :=
  crc16Of Claims.checkBytes = 0x29B1#16 ∧ crc32Of Claims.checkBytes = 0xCBF43926#32 ∧
  crc64Of Claims.checkBytes = 0x6C40DF5F0B497347#64 ∧ xxh64Of Claims.checkBytes = 0xFCBCA811732DB0BA#64 ∧
  xxh128Of Claims.checkBytes = 0x31D8A3A60DD21D7AFCBCA811732DB0BA#128

/-- HASH_STREAM, accepted: operands latched, accumulators initialised, BUSY (44_dispatcher.md section 1, 44_dispatcher.md
section 2). That the records `mutated` and `scanned` are emptied is the model's: log 11. -/
def Obligations.HashStreamAccepted : Prop :=
  ∀ (s : State) (req : BitVec 5) (prog : Bool), s.engineState ≠ .busy → s.srcLen ≠ 0 → Claims.sourceInBounds s →
    (req.getLsbD 0 = true ∨ req.getLsbD 2 = true → s.tablesValid = true) →
    exec (.hashStream req prog) s =
      .next { s with
        resCrc16 := 0, resCrc32 := 0, resCrc64 := 0, resXxh64 := 0, resXxh128Lo := 0, resXxh128Hi := 0, resElapsed := 0,
        progress := 0, resValid := 0, err := .none,
        lOp := 2, lAddr := s.srcAddr, lLen := s.srcLen, lReq := req,
        lTag := req ||| (if req.getLsbD 4 then 0x08#5 else 0x00#5), lProg := prog,
        acc16 := 0xFFFF#16, acc32 := 0xFFFFFFFF#32, acc64 := 0, accXX := 0x27D4EB2F165667C5#64, count := 0,
        engineState := .busy, mutated := [], scanned := [] }

/-- The checks of a command write, in order, and what each reports (R257). -/
def Obligations.AcceptanceChecksInOrder : Prop :=
  ∀ (s : State) (v : Word),
    (s.engineState = .busy → exec (.regWrite 0x010 v) s = .next { s with overrun := true }) ∧
    (s.engineState ≠ .busy →
      (Claims.illegalWord v →
        exec (.regWrite 0x010 v) s = .next { Claims.cleared s with engineState := .error, err := .illegalCommand }) ∧
      (¬ Claims.illegalWord v → Claims.opNumber v = 1 →
        ∃ t, exec (.regWrite 0x010 v) s = .next t ∧ t.engineState = .busy ∧ t.err = .none ∧ t.lOp = 1#4) ∧
      (¬ Claims.illegalWord v → Claims.opNumber v = 2 →
        (s.srcLen = 0 →
          exec (.regWrite 0x010 v) s = .next { Claims.cleared s with engineState := .error, err := .emptySource }) ∧
        (s.srcLen ≠ 0 → ¬ Claims.sourceInBounds s →
          exec (.regWrite 0x010 v) s = .next { Claims.cleared s with engineState := .error, err := .inputUnavailable }) ∧
        (s.srcLen ≠ 0 → Claims.sourceInBounds s → (v.getLsbD 4 = true ∨ v.getLsbD 6 = true) → s.tablesValid = false →
          exec (.regWrite 0x010 v) s = .next { Claims.cleared s with engineState := .error, err := .tablesNotBuilt }) ∧
        (s.srcLen ≠ 0 → Claims.sourceInBounds s → ¬ ((v.getLsbD 4 = true ∨ v.getLsbD 6 = true) ∧ s.tablesValid = false) →
          ∃ t, exec (.regWrite 0x010 v) s = .next t ∧ t.engineState = .busy ∧ t.err = .none ∧ t.lOp = 2#4)))

/-- An empty source is rejected whatever is requested (R258). -/
def Obligations.EmptySourceWhateverRequest : Prop :=
  ∀ (s : State) (req : BitVec 5) (prog : Bool), s.engineState ≠ .busy → s.srcLen = 0 →
    exec (.hashStream req prog) s = .next { Claims.cleared s with engineState := .error, err := .emptySource }

/-- One scan step: the byte, the enabled updates, the count and the progress event (44_dispatcher.md section 2; the
updates: 41_crc16_crc64.md sections 1 and 2, 42_crc32.md section 1, 43_xxhash.md section 2; the read: 20_memory.md sections 1
and 5; its failure: 60_exceptions.md sections 1 and 2). The model's own: the form of the draw (log 10), the records
`mutated` and `scanned` (log 11), one update of ACC32 per byte (log 18), the accumulators kept after an error (log 22). -/
def Obligations.ScanStepEffect : Prop :=
  ∀ s : State, s.engineState = .busy → s.lOp = 2#4 → s.count.toNat < s.lLen.toNat →
    let a := s.lAddr + s.count
    let b : Byte := if a ∈ s.mutated then (Config.draw s.draws).setWidth 8 else Memory.read s.mem a.toNat
    let n := s.count + 1
    let point := s.lProg = true ∧ (n.toNat % max 1 (s.lLen.toNat / 100) = 0 ∨ n = s.lLen)
    ((∃ r ∈ s.unreadable, r.base ≤ a.toNat ∧ a.toNat < r.base + r.size) →
      engineStep s = .next { s with engineState := .error, err := .inputUnavailable }) ∧
    ((¬ ∃ r ∈ s.unreadable, r.base ≤ a.toNat ∧ a.toNat < r.base + r.size) →
      engineStep s =
        .next { s with
          acc16 := if s.lTag.getLsbD 0 then
              tableAt s.t16 (((s.acc16 >>> 8) ^^^ b.setWidth 16).setWidth 8) ^^^ (s.acc16 <<< 8) else s.acc16,
          acc32 := if s.lTag.getLsbD 1 then crc32Byte s.acc32 b else s.acc32,
          acc64 := if s.lTag.getLsbD 2 then
              (s.acc64 <<< 8) ^^^ tableAt s.t64 (((s.acc64 >>> 56) ^^^ b.setWidth 64).setWidth 8) else s.acc64,
          accXX := if s.lTag.getLsbD 3 then
              (s.accXX ^^^ (b.setWidth 64 * 0x27D4EB2F165667C5#64)).rotateLeft 11 * 0x9E3779B185EBCA87#64 else s.accXX,
          count := n,
          scanned := s.scanned ++ [b],
          draws := if a ∈ s.mutated then s.draws + 1 else s.draws,
          progress := if point then n else s.progress,
          progressEvents := if point then s.progressEvents ++ [⟨n, s.lLen⟩] else s.progressEvents })

/-- A byte that cannot be read during the scan ends the command with no result (60_exceptions.md section 1, 60_exceptions.md
section 2). That the discarded accumulators keep their values is the model's: log 22. -/
def Obligations.MidScanFailureEndsCommand : Prop :=
  ∀ (s : State) (r : Region), s.engineState = .busy → s.lOp = 2#4 → s.count.toNat < s.lLen.toNat → r ∈ s.unreadable →
    r.base ≤ (s.lAddr + s.count).toNat → (s.lAddr + s.count).toNat < r.base + r.size →
    engineStep s = .next { s with engineState := .error, err := .inputUnavailable } ∧
    engineStep { s with engineState := .error, err := .inputUnavailable } =
      .next { s with engineState := .error, err := .inputUnavailable }

/-- The finalize step: each requested digest from its accumulator, then DONE (44_dispatcher.md section 2,
41_crc16_crc64.md sections 1 and 2, 42_crc32.md section 3, 43_xxhash.md section 3, 60_exceptions.md section 5). The form of the draw is the model's: log 10. -/
def Obligations.FinalizeStepEffect : Prop :=
  ∀ s : State, s.engineState = .busy → s.lOp = 2#4 → s.count = s.lLen →
    let a0 := s.accXX ^^^ s.lLen
    let a1 := a0 ^^^ (a0 >>> 33)
    let a2 := a1 * 0xC2B2AE3D27D4EB4F#64
    let a3 := a2 ^^^ (a2 >>> 29)
    let a4 := a3 * 0x165667B19E3779F9#64
    let x64 := a4 ^^^ (a4 >>> 32)
    ∃ elapsed,
      engineStep s =
        .next { s with
          resCrc16 := if s.lReq.getLsbD 0 then s.acc16 else s.resCrc16,
          resCrc32 := if s.lReq.getLsbD 1 then s.acc32 ^^^ 0xFFFFFFFF#32 else s.resCrc32,
          resCrc64 := if s.lReq.getLsbD 2 then s.acc64 else s.resCrc64,
          resXxh64 := if s.lTag.getLsbD 3 = true ∧ s.lReq.getLsbD 3 = true then x64 else s.resXxh64,
          resXxh128Lo := if s.lTag.getLsbD 3 = true ∧ s.lReq.getLsbD 4 = true then x64 else s.resXxh128Lo,
          resXxh128Hi := if s.lTag.getLsbD 3 = true ∧ s.lReq.getLsbD 4 = true then
              (s.accXX * 0x9E3779B185EBCA87#64).rotateLeft 31 ^^^ 0x85EBCA77C2B2AE63#64 else s.resXxh128Hi,
          resElapsed := elapsed, draws := s.draws + 1, resValid := s.lReq, engineState := .done }

/-- A command has at most 200 progress points, and its last byte is one (44_dispatcher.md section 2). -/
def Obligations.ProgressPointsAtMost200 : Prop :=
  ∀ L : Nat, 1 ≤ L → ((List.range (L + 1)).filter (fun n => progressPoint n L)).length ≤ 200 ∧ progressPoint L L = true

/-- A HASH_STREAM that is left to run ends in DONE with exactly the requested digests of its bytes (44_dispatcher.md section 2, 41_crc16_crc64.md, 42_crc32.md section 3, 43_xxhash.md section 4). -/
def Obligations.HashStreamRunsToDigests : Prop :=
  ∀ (s : State) (req : BitVec 5) (prog : Bool), s.engineState ≠ .busy → s.schedule = [] → s.srcLen ≠ 0 →
    Claims.sourceInBounds s →
    (req.getLsbD 0 = true ∨ req.getLsbD 2 = true → s.tablesValid = true ∧ s.t16 = builtT16 ∧ s.t64 = builtT64) →
    let bs := sourceBytes s.mem s.srcAddr.toNat s.srcLen.toNat
    ∃ t u, exec (.hashStream req prog) s = .next t ∧ t.engineState = .busy ∧
      Claims.runSteps (s.srcLen.toNat + 1) t = .next u ∧
      u.engineState = .done ∧ u.err = .none ∧ u.resValid = req ∧
      u.resCrc16 = (if req.getLsbD 0 then crc16Of bs else 0) ∧
      u.resCrc32 = (if req.getLsbD 1 then crc32Of bs else 0) ∧
      u.resCrc64 = (if req.getLsbD 2 then crc64Of bs else 0) ∧
      u.resXxh64 = (if req.getLsbD 3 then xxh64Of bs else 0) ∧
      u.resXxh128Hi ++ u.resXxh128Lo = (if req.getLsbD 4 then xxh128Of bs else 0) ∧
      u.srcAddr = s.srcAddr ∧ u.srcLen = s.srcLen ∧ u.tablesValid = s.tablesValid ∧ u.t16 = s.t16 ∧ u.t64 = s.t64 ∧
      u.overrun = s.overrun ∧ u.backend = s.backend ∧ u.mem = s.mem

/-- A running HASH_STREAM is BUSY for exactly L_LEN steps and ends with the next (44_dispatcher.md section 4, 44_dispatcher.md section 2). -/
def Obligations.HashStreamEndsAfterLenPlusOneSteps : Prop :=
  ∀ (s : State) (req : BitVec 5) (prog : Bool), s.engineState ≠ .busy → s.schedule = [] → s.srcLen ≠ 0 →
    Claims.sourceInBounds s →
    (req.getLsbD 0 = true ∨ req.getLsbD 2 = true → s.tablesValid = true) →
    ∃ t, exec (.hashStream req prog) s = .next t ∧
      (∀ k, k ≤ s.srcLen.toNat → ∃ v, Claims.runSteps k t = .next v ∧ v.engineState = .busy ∧ v.count.toNat = k ∧
        v.resValid = 0 ∧ v.resCrc16 = 0 ∧ v.resCrc32 = 0 ∧ v.resCrc64 = 0 ∧ v.resXxh64 = 0 ∧ v.resXxh128Lo = 0 ∧
        v.resXxh128Hi = 0 ∧ v.resElapsed = 0) ∧
      ∃ u, Claims.runSteps (s.srcLen.toNat + 1) t = .next u ∧ u.engineState = .done

/-- A run emits Progress(n, L) at exactly the progress points, in ascending order, the last at L (44_dispatcher.md section 2). -/
def Obligations.ProgressEventsOfRun : Prop :=
  ∀ (s : State) (req : BitVec 5) (prog : Bool), s.engineState ≠ .busy → s.schedule = [] → s.srcLen ≠ 0 →
    Claims.sourceInBounds s →
    (req.getLsbD 0 = true ∨ req.getLsbD 2 = true → s.tablesValid = true) →
    ∃ t u, exec (.hashStream req prog) s = .next t ∧ Claims.runSteps (s.srcLen.toNat + 1) t = .next u ∧
      u.progress = (if prog then s.srcLen else 0) ∧
      u.progressEvents = s.progressEvents ++ (if prog then
        (((List.range s.srcLen.toNat).map (fun k => k + 1)).filter
          (fun n => n % max 1 (s.srcLen.toNat / 100) == 0 || n == s.srcLen.toNat)).map
            (fun n => ⟨BitVec.ofNat 64 n, s.srcLen⟩) else [])

/-- Two HASH_STREAMs with the same request over the same bytes give the same results (44_dispatcher.md section 4). -/
def Obligations.HashStreamIsIdempotent : Prop :=
  ∀ (s1 s2 t1 t2 u1 u2 : State) (req : BitVec 5) (p1 p2 : Bool),
    s1.engineState ≠ .busy → s2.engineState ≠ .busy → s1.schedule = [] → s2.schedule = [] →
    s1.srcLen = s2.srcLen →
    sourceBytes s1.mem s1.srcAddr.toNat s1.srcLen.toNat = sourceBytes s2.mem s2.srcAddr.toNat s2.srcLen.toNat →
    s1.t16 = s2.t16 → s1.t64 = s2.t64 →
    exec (.hashStream req p1) s1 = .next t1 → exec (.hashStream req p2) s2 = .next t2 →
    t1.engineState = .busy → t2.engineState = .busy →
    Claims.runSteps (s1.srcLen.toNat + 1) t1 = .next u1 → Claims.runSteps (s2.srcLen.toNat + 1) t2 = .next u2 →
    u1.resValid = u2.resValid ∧ u1.resCrc16 = u2.resCrc16 ∧ u1.resCrc32 = u2.resCrc32 ∧ u1.resCrc64 = u2.resCrc64 ∧
      u1.resXxh64 = u2.resXxh64 ∧ u1.resXxh128Lo = u2.resXxh128Lo ∧ u1.resXxh128Hi = u2.resXxh128Hi

/-- The XXH64 value is the same in every request that computes it (43_xxhash.md section 4, 44_dispatcher.md section 2). -/
def Obligations.Xxh64SameAloneAndWithXxh128 : Prop :=
  ∀ (s t1 t2 u1 u2 : State) (req1 req2 : BitVec 5) (p1 p2 : Bool), s.engineState ≠ .busy → s.schedule = [] →
    exec (.hashStream req1 p1) s = .next t1 → exec (.hashStream req2 p2) s = .next t2 →
    t1.engineState = .busy → t2.engineState = .busy →
    Claims.runSteps (s.srcLen.toNat + 1) t1 = .next u1 → Claims.runSteps (s.srcLen.toNat + 1) t2 = .next u2 →
    req1.getLsbD 3 = true → req2.getLsbD 4 = true →
    u2.resXxh128Lo = u1.resXxh64 ∧ u2.resXxh64 = (if req2.getLsbD 3 then u1.resXxh64 else 0)

/-- The CRC-32 backend changes nothing but itself (42_crc32.md section 2). -/
def Obligations.BackendNeverChangesOutput : Prop :=
  ∀ (s t : State) (backend : Backend), engineStep s = .next t →
    engineStep { s with backend := backend } = .next { t with backend := backend }

/-- The progress port is observational: it changes nothing but PROGRESS and the events (44_dispatcher.md section 2). -/
def Obligations.ProgressNeverChangesResults : Prop :=
  ∀ (s t : State) (prog : Bool), engineStep s = .next t →
    ∃ n events, engineStep { s with lProg := prog } =
      .next { t with lProg := prog, progress := n, progressEvents := events }

/-- A running command reads the latched operands, never SRC_ADDR or SRC_LEN (10_state.md section 2, 70_reset_and_hazards.md section 3). -/
def Obligations.EngineReadsOnlyLatchedOperands : Prop :=
  ∀ (s t : State) (addr len : Word), engineStep s = .next t →
    engineStep { s with srcAddr := addr, srcLen := len } = .next { t with srcAddr := addr, srcLen := len }

/-- The state after reset meets the invariant (10_state.md section 4). -/
def Obligations.ResetMeetsInv : Prop :=
  State.reset.Inv

/-- Every step keeps the invariant (10_state.md section 1, 10_state.md section 2, 44_dispatcher.md section 2, 70_reset_and_hazards.md section 3, 20_memory.md section 5). -/
def Obligations.StepKeepsInv : Prop :=
  ∀ s t : State, s.Inv → step s = .next t → t.Inv

/-- No step faults from a state that meets the invariant (00_scope.md section 7, 30_encoding.md section 1). -/
def Obligations.InvRulesOutFault : Prop :=
  ∀ (s : State) (f : Fault), s.Inv → step s ≠ .fault f

/-- STATE moves only along the transitions of the command state machine (10_state.md section 1). -/
def Obligations.StateTransitionsAllowed : Prop :=
  ∀ s t : State, step s = .next t →
    t.engineState = s.engineState ∨
    (resetNext s = true ∧ t.engineState = .idle) ∨
    (hostAccessNext s = true ∧ s.engineState ≠ .busy ∧ (t.engineState = .busy ∨ t.engineState = .error)) ∨
    (s.engineState = .busy ∧ t.engineState = .done) ∨
    (s.engineState = .busy ∧ s.lOp = 2#4 ∧ t.engineState = .error ∧ t.err = .inputUnavailable ∧
      ∃ r ∈ s.unreadable, r.base ≤ (s.lAddr + s.count).toNat ∧ (s.lAddr + s.count).toNat < r.base + r.size)

/-- The engine never writes host memory (20_memory.md section 6). -/
def Obligations.HostMemoryChangesOnlyByStores : Prop :=
  ∀ s t : State, step s = .next t → storeNext s = false → ∀ a, Memory.read t.mem a = Memory.read s.mem a

/-- A host store changes exactly its byte, and is refused in the register window (20_memory.md section 5, 20_memory.md
section 1, 20_memory.md section 2). Of the rest of the state it changes nothing, but where it hits the running ByteSource the
records of log 11 and what follows from a byte that becomes a draw. The refusal in the window is the model's reading: log 17. -/
def Obligations.HostStoreWritesOneByte : Prop :=
  ∀ (s : State) (addr : Word) (byte : Byte) (rest : List Slot), s.schedule = ⟨false, .store addr byte⟩ :: rest →
    Memory.wf s.mem →
    (¬ (Config.regBase.toNat ≤ addr.toNat ∧ addr.toNat < Config.regBase.toNat + 0x2000) →
      ∃ t, step s = .next t ∧
        t = { s with
          schedule := rest, mem := t.mem, mutated := t.mutated, scanned := t.scanned, acc16 := t.acc16, acc32 := t.acc32,
          acc64 := t.acc64, accXX := t.accXX, draws := t.draws } ∧
        (¬ (s.engineState = .busy ∧ s.lOp = 2#4 ∧ s.lAddr.toNat ≤ addr.toNat ∧
            addr.toNat < s.lAddr.toNat + s.lLen.toNat) →
          t = { s with schedule := rest, mem := t.mem }) ∧
        Memory.read t.mem addr.toNat = byte ∧ (∀ a, a ≠ addr.toNat → Memory.read t.mem a = Memory.read s.mem a) ∧
        Memory.wf t.mem) ∧
    (Config.regBase.toNat ≤ addr.toNat ∧ addr.toNat < Config.regBase.toNat + 0x2000 → step s = .refused .storeToWindow)

/-- A byte the host stores to during the scan is read as a free value (20_memory.md section 5, 93_implementation_defined.md
part 1). The record of addresses and the form of the draw are the model's: logs 10 and 11. -/
def Obligations.StoreDuringScanMakesByteADraw : Prop :=
  ∀ (s : State) (addr : Word) (byte : Byte), s.engineState = .busy → s.lOp = 2#4 →
    s.lAddr.toNat ≤ addr.toNat → addr.toNat < s.lAddr.toNat + s.lLen.toNat →
    ¬ (Config.regBase.toNat ≤ addr.toNat ∧ addr.toNat < Config.regBase.toNat + 0x2000) →
    ∃ t, runMove (.store addr byte) s = .next t ∧
      ∀ n : Word, s.lAddr + n = addr → scanByte { t with count := n } = (Config.draw t.draws).setWidth 8

/-- A byte the running scan has already read becomes a free value where the host stores to it before the command ends
(20_memory.md section 5, 93_implementation_defined.md part 1). That every enabled accumulator is that of the bytes with the
drawn one in its place is the model's form of the rule: log 11; the form of the draw is log 10. -/
def Obligations.StoreBehindScanMakesByteADraw : Prop :=
  ∀ (s : State) (addr : Word) (byte : Byte), s.engineState = .busy → s.lOp = 2#4 →
    s.lAddr.toNat ≤ addr.toNat → addr.toNat < s.lAddr.toNat + s.lLen.toNat →
    ¬ (Config.regBase.toNat ≤ addr.toNat ∧ addr.toNat < Config.regBase.toNat + 0x2000) →
    let i := addr.toNat - s.lAddr.toNat
    let bs := s.scanned.set i ((Config.draw s.draws).setWidth 8)
    (i < s.count.toNat → addr ∉ s.mutated →
      runMove (.store addr byte) s =
        .next { s with
          mem := Memory.write s.mem addr.toNat byte, mutated := addr :: s.mutated, scanned := bs,
          acc16 := if s.lTag.getLsbD 0 then bs.foldl (crc16Step s.t16) 0xFFFF#16 else 0xFFFF#16,
          acc32 := if s.lTag.getLsbD 1 then bs.foldl crc32Byte 0xFFFFFFFF#32 else 0xFFFFFFFF#32,
          acc64 := if s.lTag.getLsbD 2 then bs.foldl (crc64Step s.t64) 0 else 0,
          accXX := if s.lTag.getLsbD 3 then bs.foldl xxhMix 0x27D4EB2F165667C5#64 else 0x27D4EB2F165667C5#64,
          draws := s.draws + 1 }) ∧
    (s.count.toNat ≤ i → addr ∉ s.mutated →
      runMove (.store addr byte) s =
        .next { s with mem := Memory.write s.mem addr.toNat byte, mutated := addr :: s.mutated }) ∧
    (addr ∈ s.mutated →
      runMove (.store addr byte) s = .next { s with mem := Memory.write s.mem addr.toNat byte })

/-- The digests of every run are functions of the bytes actually read, each of them what host memory holds or, where the host
stored to it during the scan, a draw (93_implementation_defined.md part 1, 20_memory.md sections 1 and 5,
44_dispatcher.md section 2, 41_crc16_crc64.md sections 1 and 2, 42_crc32.md section 3, 43_xxhash.md section 4). The list of the bytes read is the model's own: log 11. -/
def Obligations.DigestsAreOfTheBytesRead : Prop :=
  ∀ s : State, s.Inv → s.engineState = .busy → s.lOp = 2#4 → s.count = s.lLen →
    ∃ u, engineStep s = .next u ∧ u.engineState = .done ∧ u.resValid = s.lReq ∧
      u.resCrc16 = (if s.lReq.getLsbD 0 then crc16Of s.scanned else 0) ∧
      u.resCrc32 = (if s.lReq.getLsbD 1 then crc32Of s.scanned else 0) ∧
      u.resCrc64 = (if s.lReq.getLsbD 2 then crc64Of s.scanned else 0) ∧
      u.resXxh64 = (if s.lReq.getLsbD 3 then xxh64Of s.scanned else 0) ∧
      u.resXxh128Hi ++ u.resXxh128Lo = (if s.lReq.getLsbD 4 then xxh128Of s.scanned else 0) ∧
      s.scanned.length = s.lLen.toNat ∧
      (∀ i, i < s.lLen.toNat → s.lAddr + BitVec.ofNat 64 i ∉ s.mutated →
        s.scanned[i]? = some (Memory.read s.mem (s.lAddr.toNat + i)))

/-- The digest text is the register in 4, 8, 16, 16 or 32 uppercase hexadecimal digits (R100). -/
def Obligations.DigestTextRendersRegisters : Prop :=
  ∀ s : State,
    ((digestText s .crc16).length = 4 ∧ Claims.textValue (digestText s .crc16) = s.resCrc16.toNat) ∧
    ((digestText s .crc32).length = 8 ∧ Claims.textValue (digestText s .crc32) = s.resCrc32.toNat) ∧
    ((digestText s .crc64).length = 16 ∧ Claims.textValue (digestText s .crc64) = s.resCrc64.toNat) ∧
    ((digestText s .xxh64).length = 16 ∧ Claims.textValue (digestText s .xxh64) = s.resXxh64.toNat) ∧
    ((digestText s .xxh128).length = 32 ∧
      Claims.textValue (digestText s .xxh128) = s.resXxh128Hi.toNat * 2 ^ 64 + s.resXxh128Lo.toNat) ∧
    (∀ (k : Algorithm) (c : Char), c ∈ digestText s k → Claims.isHexDigit c)

/-- The assembler lines expand to their transactions (30_encoding.md section 4, 10_state.md section 1). How often WAIT reads
before its loop ends is not fixed, and is the argument `polls`: log 20. -/
def Obligations.AssemblerLinesExpand : Prop :=
  (∀ polls : Nat, expandLine polls .blank = []) ∧
  (∀ (polls : Nat) (a n : Word), expandLine polls (.src a n) = [.bus 0x8018 a, .bus 0x8020 n]) ∧
  (∀ polls : Nat, expandLine polls .build = [.bus 0x8010 0x1]) ∧
  (∀ (polls : Nat) (algs : List Algorithm) (prog : Bool), expandLine polls (.hash algs prog) =
    [.bus 0x8010 (0x2#64 ||| ((requestMask algs).setWidth 64 <<< 4) ||| (if prog then 1#64 <<< 9 else 0#64))]) ∧
  (∀ polls : Nat, expandLine polls .wait = List.replicate (polls + 1) (.bus 0x0008 0)) ∧
  (∀ s : State, waitEnds (statusWord s) = true ↔ s.engineState ≠ .busy) ∧
  (∀ status : Word, waitEnds status = true ↔ status.toNat % 4 ≠ 1) ∧
  (∀ (polls : Nat) (r : Reg) (v : Word), r ≠ .reserved →
    expandLine polls (.wr r v) = [.bus (BitVec.ofNat 16 (0x8000 + Claims.registerOffset r)) v] ∧
    expandLine polls (.rd r) = [.bus (BitVec.ofNat 16 (Claims.registerOffset r)) 0] ∧
    expandLine polls (.check r v) = [.bus (BitVec.ofNat 16 (Claims.registerOffset r)) 0] ∧
    regAt (BitVec.ofNat 13 (Claims.registerOffset r)) = r) ∧
  (∀ (s : State) (r : Reg) (v : Word), checkHolds s (.check r v) = true ↔ s.readData = v) ∧
  (∀ (polls : Nat) (line : Line) (w : HostWord), w ∈ expandLine polls line →
    ∃ i, decode w = .ok i ∧ i.wellFormed = true)

/-- The request mask has an algorithm's bit exactly when the set holds it, and every mask is legal (R92). -/
def Obligations.RequestMaskIsTheSet : Prop :=
  (∀ algs : List Algorithm,
    ((requestMask algs).getLsbD 0 = true ↔ .crc16 ∈ algs) ∧ ((requestMask algs).getLsbD 1 = true ↔ .crc32 ∈ algs) ∧
    ((requestMask algs).getLsbD 2 = true ↔ .crc64 ∈ algs) ∧ ((requestMask algs).getLsbD 3 = true ↔ .xxh64 ∈ algs) ∧
    ((requestMask algs).getLsbD 4 = true ↔ .xxh128 ∈ algs)) ∧
  (∀ (req : BitVec 5) (prog : Bool),
    decode (.cmd (BitVec.ofNat 64 (2 + 16 * req.toNat + 512 * prog.toNat))) = .ok (.hashStream req prog)) ∧
  (∀ (s : State) (k : Nat), k < 5 → (statusWord s).getLsbD (16 + k) = s.resValid.getLsbD k)
end

