-- ==== Sys2Proof/Laws/State.lean ====
section
/-! SUPPORT. What each update of the state does to each field: one lemma per field per update, true by rfl, so that no later
proof unfolds a record update. -/

namespace Sys2Proof.Machine

section clearResultsFields
variable (s : State)

@[simp] theorem clearResults_engineState : (clearResults s).engineState = s.engineState := rfl
@[simp] theorem clearResults_err : (clearResults s).err = .none := rfl
@[simp] theorem clearResults_tablesValid : (clearResults s).tablesValid = s.tablesValid := rfl
@[simp] theorem clearResults_overrun : (clearResults s).overrun = s.overrun := rfl
@[simp] theorem clearResults_resValid : (clearResults s).resValid = 0 := rfl
@[simp] theorem clearResults_srcAddr : (clearResults s).srcAddr = s.srcAddr := rfl
@[simp] theorem clearResults_srcLen : (clearResults s).srcLen = s.srcLen := rfl
@[simp] theorem clearResults_resCrc16 : (clearResults s).resCrc16 = 0 := rfl
@[simp] theorem clearResults_resCrc32 : (clearResults s).resCrc32 = 0 := rfl
@[simp] theorem clearResults_resCrc64 : (clearResults s).resCrc64 = 0 := rfl
@[simp] theorem clearResults_resXxh64 : (clearResults s).resXxh64 = 0 := rfl
@[simp] theorem clearResults_resXxh128Lo : (clearResults s).resXxh128Lo = 0 := rfl
@[simp] theorem clearResults_resXxh128Hi : (clearResults s).resXxh128Hi = 0 := rfl
@[simp] theorem clearResults_resElapsed : (clearResults s).resElapsed = 0 := rfl
@[simp] theorem clearResults_progress : (clearResults s).progress = 0 := rfl
@[simp] theorem clearResults_lOp : (clearResults s).lOp = s.lOp := rfl
@[simp] theorem clearResults_lAddr : (clearResults s).lAddr = s.lAddr := rfl
@[simp] theorem clearResults_lLen : (clearResults s).lLen = s.lLen := rfl
@[simp] theorem clearResults_lReq : (clearResults s).lReq = s.lReq := rfl
@[simp] theorem clearResults_lTag : (clearResults s).lTag = s.lTag := rfl
@[simp] theorem clearResults_lProg : (clearResults s).lProg = s.lProg := rfl
@[simp] theorem clearResults_acc16 : (clearResults s).acc16 = s.acc16 := rfl
@[simp] theorem clearResults_acc32 : (clearResults s).acc32 = s.acc32 := rfl
@[simp] theorem clearResults_acc64 : (clearResults s).acc64 = s.acc64 := rfl
@[simp] theorem clearResults_accXX : (clearResults s).accXX = s.accXX := rfl
@[simp] theorem clearResults_count : (clearResults s).count = s.count := rfl
@[simp] theorem clearResults_t16 : (clearResults s).t16 = s.t16 := rfl
@[simp] theorem clearResults_t64 : (clearResults s).t64 = s.t64 := rfl
@[simp] theorem clearResults_backend : (clearResults s).backend = s.backend := rfl
@[simp] theorem clearResults_readData : (clearResults s).readData = s.readData := rfl
@[simp] theorem clearResults_progressEvents : (clearResults s).progressEvents = s.progressEvents := rfl
@[simp] theorem clearResults_mem : (clearResults s).mem = s.mem := rfl
@[simp] theorem clearResults_unreadable : (clearResults s).unreadable = s.unreadable := rfl
@[simp] theorem clearResults_mutated : (clearResults s).mutated = s.mutated := rfl
@[simp] theorem clearResults_scanned : (clearResults s).scanned = s.scanned := rfl
@[simp] theorem clearResults_schedule : (clearResults s).schedule = s.schedule := rfl
@[simp] theorem clearResults_draws : (clearResults s).draws = s.draws := rfl

end clearResultsFields

section raiseErrorFields
variable (code : ErrorCode) (s : State)

@[simp] theorem raiseError_engineState : (raiseError code s).engineState = .error := rfl
@[simp] theorem raiseError_err : (raiseError code s).err = code := rfl
@[simp] theorem raiseError_tablesValid : (raiseError code s).tablesValid = s.tablesValid := rfl
@[simp] theorem raiseError_overrun : (raiseError code s).overrun = s.overrun := rfl
@[simp] theorem raiseError_resValid : (raiseError code s).resValid = s.resValid := rfl
@[simp] theorem raiseError_srcAddr : (raiseError code s).srcAddr = s.srcAddr := rfl
@[simp] theorem raiseError_srcLen : (raiseError code s).srcLen = s.srcLen := rfl
@[simp] theorem raiseError_resCrc16 : (raiseError code s).resCrc16 = s.resCrc16 := rfl
@[simp] theorem raiseError_resCrc32 : (raiseError code s).resCrc32 = s.resCrc32 := rfl
@[simp] theorem raiseError_resCrc64 : (raiseError code s).resCrc64 = s.resCrc64 := rfl
@[simp] theorem raiseError_resXxh64 : (raiseError code s).resXxh64 = s.resXxh64 := rfl
@[simp] theorem raiseError_resXxh128Lo : (raiseError code s).resXxh128Lo = s.resXxh128Lo := rfl
@[simp] theorem raiseError_resXxh128Hi : (raiseError code s).resXxh128Hi = s.resXxh128Hi := rfl
@[simp] theorem raiseError_resElapsed : (raiseError code s).resElapsed = s.resElapsed := rfl
@[simp] theorem raiseError_progress : (raiseError code s).progress = s.progress := rfl
@[simp] theorem raiseError_lOp : (raiseError code s).lOp = s.lOp := rfl
@[simp] theorem raiseError_lAddr : (raiseError code s).lAddr = s.lAddr := rfl
@[simp] theorem raiseError_lLen : (raiseError code s).lLen = s.lLen := rfl
@[simp] theorem raiseError_lReq : (raiseError code s).lReq = s.lReq := rfl
@[simp] theorem raiseError_lTag : (raiseError code s).lTag = s.lTag := rfl
@[simp] theorem raiseError_lProg : (raiseError code s).lProg = s.lProg := rfl
@[simp] theorem raiseError_acc16 : (raiseError code s).acc16 = s.acc16 := rfl
@[simp] theorem raiseError_acc32 : (raiseError code s).acc32 = s.acc32 := rfl
@[simp] theorem raiseError_acc64 : (raiseError code s).acc64 = s.acc64 := rfl
@[simp] theorem raiseError_accXX : (raiseError code s).accXX = s.accXX := rfl
@[simp] theorem raiseError_count : (raiseError code s).count = s.count := rfl
@[simp] theorem raiseError_t16 : (raiseError code s).t16 = s.t16 := rfl
@[simp] theorem raiseError_t64 : (raiseError code s).t64 = s.t64 := rfl
@[simp] theorem raiseError_backend : (raiseError code s).backend = s.backend := rfl
@[simp] theorem raiseError_readData : (raiseError code s).readData = s.readData := rfl
@[simp] theorem raiseError_progressEvents : (raiseError code s).progressEvents = s.progressEvents := rfl
@[simp] theorem raiseError_mem : (raiseError code s).mem = s.mem := rfl
@[simp] theorem raiseError_unreadable : (raiseError code s).unreadable = s.unreadable := rfl
@[simp] theorem raiseError_mutated : (raiseError code s).mutated = s.mutated := rfl
@[simp] theorem raiseError_scanned : (raiseError code s).scanned = s.scanned := rfl
@[simp] theorem raiseError_schedule : (raiseError code s).schedule = s.schedule := rfl
@[simp] theorem raiseError_draws : (raiseError code s).draws = s.draws := rfl

end raiseErrorFields

section setOverrunFields
variable (s : State)

@[simp] theorem setOverrun_engineState : (setOverrun s).engineState = s.engineState := rfl
@[simp] theorem setOverrun_err : (setOverrun s).err = s.err := rfl
@[simp] theorem setOverrun_tablesValid : (setOverrun s).tablesValid = s.tablesValid := rfl
@[simp] theorem setOverrun_overrun : (setOverrun s).overrun = true := rfl
@[simp] theorem setOverrun_resValid : (setOverrun s).resValid = s.resValid := rfl
@[simp] theorem setOverrun_srcAddr : (setOverrun s).srcAddr = s.srcAddr := rfl
@[simp] theorem setOverrun_srcLen : (setOverrun s).srcLen = s.srcLen := rfl
@[simp] theorem setOverrun_resCrc16 : (setOverrun s).resCrc16 = s.resCrc16 := rfl
@[simp] theorem setOverrun_resCrc32 : (setOverrun s).resCrc32 = s.resCrc32 := rfl
@[simp] theorem setOverrun_resCrc64 : (setOverrun s).resCrc64 = s.resCrc64 := rfl
@[simp] theorem setOverrun_resXxh64 : (setOverrun s).resXxh64 = s.resXxh64 := rfl
@[simp] theorem setOverrun_resXxh128Lo : (setOverrun s).resXxh128Lo = s.resXxh128Lo := rfl
@[simp] theorem setOverrun_resXxh128Hi : (setOverrun s).resXxh128Hi = s.resXxh128Hi := rfl
@[simp] theorem setOverrun_resElapsed : (setOverrun s).resElapsed = s.resElapsed := rfl
@[simp] theorem setOverrun_progress : (setOverrun s).progress = s.progress := rfl
@[simp] theorem setOverrun_lOp : (setOverrun s).lOp = s.lOp := rfl
@[simp] theorem setOverrun_lAddr : (setOverrun s).lAddr = s.lAddr := rfl
@[simp] theorem setOverrun_lLen : (setOverrun s).lLen = s.lLen := rfl
@[simp] theorem setOverrun_lReq : (setOverrun s).lReq = s.lReq := rfl
@[simp] theorem setOverrun_lTag : (setOverrun s).lTag = s.lTag := rfl
@[simp] theorem setOverrun_lProg : (setOverrun s).lProg = s.lProg := rfl
@[simp] theorem setOverrun_acc16 : (setOverrun s).acc16 = s.acc16 := rfl
@[simp] theorem setOverrun_acc32 : (setOverrun s).acc32 = s.acc32 := rfl
@[simp] theorem setOverrun_acc64 : (setOverrun s).acc64 = s.acc64 := rfl
@[simp] theorem setOverrun_accXX : (setOverrun s).accXX = s.accXX := rfl
@[simp] theorem setOverrun_count : (setOverrun s).count = s.count := rfl
@[simp] theorem setOverrun_t16 : (setOverrun s).t16 = s.t16 := rfl
@[simp] theorem setOverrun_t64 : (setOverrun s).t64 = s.t64 := rfl
@[simp] theorem setOverrun_backend : (setOverrun s).backend = s.backend := rfl
@[simp] theorem setOverrun_readData : (setOverrun s).readData = s.readData := rfl
@[simp] theorem setOverrun_progressEvents : (setOverrun s).progressEvents = s.progressEvents := rfl
@[simp] theorem setOverrun_mem : (setOverrun s).mem = s.mem := rfl
@[simp] theorem setOverrun_unreadable : (setOverrun s).unreadable = s.unreadable := rfl
@[simp] theorem setOverrun_mutated : (setOverrun s).mutated = s.mutated := rfl
@[simp] theorem setOverrun_scanned : (setOverrun s).scanned = s.scanned := rfl
@[simp] theorem setOverrun_schedule : (setOverrun s).schedule = s.schedule := rfl
@[simp] theorem setOverrun_draws : (setOverrun s).draws = s.draws := rfl

end setOverrunFields

section latchOperandsFields
variable (op : BitVec 4) (req : BitVec 5) (prog : Bool) (s : State)

@[simp] theorem latchOperands_engineState : (latchOperands op req prog s).engineState = s.engineState := rfl
@[simp] theorem latchOperands_err : (latchOperands op req prog s).err = s.err := rfl
@[simp] theorem latchOperands_tablesValid : (latchOperands op req prog s).tablesValid = s.tablesValid := rfl
@[simp] theorem latchOperands_overrun : (latchOperands op req prog s).overrun = s.overrun := rfl
@[simp] theorem latchOperands_resValid : (latchOperands op req prog s).resValid = s.resValid := rfl
@[simp] theorem latchOperands_srcAddr : (latchOperands op req prog s).srcAddr = s.srcAddr := rfl
@[simp] theorem latchOperands_srcLen : (latchOperands op req prog s).srcLen = s.srcLen := rfl
@[simp] theorem latchOperands_resCrc16 : (latchOperands op req prog s).resCrc16 = s.resCrc16 := rfl
@[simp] theorem latchOperands_resCrc32 : (latchOperands op req prog s).resCrc32 = s.resCrc32 := rfl
@[simp] theorem latchOperands_resCrc64 : (latchOperands op req prog s).resCrc64 = s.resCrc64 := rfl
@[simp] theorem latchOperands_resXxh64 : (latchOperands op req prog s).resXxh64 = s.resXxh64 := rfl
@[simp] theorem latchOperands_resXxh128Lo : (latchOperands op req prog s).resXxh128Lo = s.resXxh128Lo := rfl
@[simp] theorem latchOperands_resXxh128Hi : (latchOperands op req prog s).resXxh128Hi = s.resXxh128Hi := rfl
@[simp] theorem latchOperands_resElapsed : (latchOperands op req prog s).resElapsed = s.resElapsed := rfl
@[simp] theorem latchOperands_progress : (latchOperands op req prog s).progress = s.progress := rfl
@[simp] theorem latchOperands_lOp : (latchOperands op req prog s).lOp = op := rfl
@[simp] theorem latchOperands_lAddr : (latchOperands op req prog s).lAddr = s.srcAddr := rfl
@[simp] theorem latchOperands_lLen : (latchOperands op req prog s).lLen = s.srcLen := rfl
@[simp] theorem latchOperands_lReq : (latchOperands op req prog s).lReq = req := rfl
@[simp] theorem latchOperands_lTag : (latchOperands op req prog s).lTag = routineTag req := rfl
@[simp] theorem latchOperands_lProg : (latchOperands op req prog s).lProg = prog := rfl
@[simp] theorem latchOperands_acc16 : (latchOperands op req prog s).acc16 = s.acc16 := rfl
@[simp] theorem latchOperands_acc32 : (latchOperands op req prog s).acc32 = s.acc32 := rfl
@[simp] theorem latchOperands_acc64 : (latchOperands op req prog s).acc64 = s.acc64 := rfl
@[simp] theorem latchOperands_accXX : (latchOperands op req prog s).accXX = s.accXX := rfl
@[simp] theorem latchOperands_count : (latchOperands op req prog s).count = s.count := rfl
@[simp] theorem latchOperands_t16 : (latchOperands op req prog s).t16 = s.t16 := rfl
@[simp] theorem latchOperands_t64 : (latchOperands op req prog s).t64 = s.t64 := rfl
@[simp] theorem latchOperands_backend : (latchOperands op req prog s).backend = s.backend := rfl
@[simp] theorem latchOperands_readData : (latchOperands op req prog s).readData = s.readData := rfl
@[simp] theorem latchOperands_progressEvents : (latchOperands op req prog s).progressEvents = s.progressEvents := rfl
@[simp] theorem latchOperands_mem : (latchOperands op req prog s).mem = s.mem := rfl
@[simp] theorem latchOperands_unreadable : (latchOperands op req prog s).unreadable = s.unreadable := rfl
@[simp] theorem latchOperands_mutated : (latchOperands op req prog s).mutated = s.mutated := rfl
@[simp] theorem latchOperands_scanned : (latchOperands op req prog s).scanned = s.scanned := rfl
@[simp] theorem latchOperands_schedule : (latchOperands op req prog s).schedule = s.schedule := rfl
@[simp] theorem latchOperands_draws : (latchOperands op req prog s).draws = s.draws := rfl

end latchOperandsFields

section buildStepFields
variable (s : State)

@[simp] theorem buildStep_engineState : (buildStep s).engineState = .done := rfl
@[simp] theorem buildStep_err : (buildStep s).err = s.err := rfl
@[simp] theorem buildStep_tablesValid : (buildStep s).tablesValid = true := rfl
@[simp] theorem buildStep_overrun : (buildStep s).overrun = s.overrun := rfl
@[simp] theorem buildStep_resValid : (buildStep s).resValid = s.resValid := rfl
@[simp] theorem buildStep_srcAddr : (buildStep s).srcAddr = s.srcAddr := rfl
@[simp] theorem buildStep_srcLen : (buildStep s).srcLen = s.srcLen := rfl
@[simp] theorem buildStep_resCrc16 : (buildStep s).resCrc16 = s.resCrc16 := rfl
@[simp] theorem buildStep_resCrc32 : (buildStep s).resCrc32 = s.resCrc32 := rfl
@[simp] theorem buildStep_resCrc64 : (buildStep s).resCrc64 = s.resCrc64 := rfl
@[simp] theorem buildStep_resXxh64 : (buildStep s).resXxh64 = s.resXxh64 := rfl
@[simp] theorem buildStep_resXxh128Lo : (buildStep s).resXxh128Lo = s.resXxh128Lo := rfl
@[simp] theorem buildStep_resXxh128Hi : (buildStep s).resXxh128Hi = s.resXxh128Hi := rfl
@[simp] theorem buildStep_resElapsed : (buildStep s).resElapsed = s.resElapsed := rfl
@[simp] theorem buildStep_progress : (buildStep s).progress = s.progress := rfl
@[simp] theorem buildStep_lOp : (buildStep s).lOp = s.lOp := rfl
@[simp] theorem buildStep_lAddr : (buildStep s).lAddr = s.lAddr := rfl
@[simp] theorem buildStep_lLen : (buildStep s).lLen = s.lLen := rfl
@[simp] theorem buildStep_lReq : (buildStep s).lReq = s.lReq := rfl
@[simp] theorem buildStep_lTag : (buildStep s).lTag = s.lTag := rfl
@[simp] theorem buildStep_lProg : (buildStep s).lProg = s.lProg := rfl
@[simp] theorem buildStep_acc16 : (buildStep s).acc16 = s.acc16 := rfl
@[simp] theorem buildStep_acc32 : (buildStep s).acc32 = s.acc32 := rfl
@[simp] theorem buildStep_acc64 : (buildStep s).acc64 = s.acc64 := rfl
@[simp] theorem buildStep_accXX : (buildStep s).accXX = s.accXX := rfl
@[simp] theorem buildStep_count : (buildStep s).count = s.count := rfl
@[simp] theorem buildStep_t16 : (buildStep s).t16 = builtT16 := rfl
@[simp] theorem buildStep_t64 : (buildStep s).t64 = builtT64 := rfl
@[simp] theorem buildStep_backend : (buildStep s).backend = s.backend := rfl
@[simp] theorem buildStep_readData : (buildStep s).readData = s.readData := rfl
@[simp] theorem buildStep_progressEvents : (buildStep s).progressEvents = s.progressEvents := rfl
@[simp] theorem buildStep_mem : (buildStep s).mem = s.mem := rfl
@[simp] theorem buildStep_unreadable : (buildStep s).unreadable = s.unreadable := rfl
@[simp] theorem buildStep_mutated : (buildStep s).mutated = s.mutated := rfl
@[simp] theorem buildStep_scanned : (buildStep s).scanned = s.scanned := rfl
@[simp] theorem buildStep_schedule : (buildStep s).schedule = s.schedule := rfl
@[simp] theorem buildStep_draws : (buildStep s).draws = s.draws := rfl

end buildStepFields

section acceptBuildTablesFields
variable (s : State)

@[simp] theorem acceptBuildTables_engineState : (acceptBuildTables s).engineState = .busy := rfl
@[simp] theorem acceptBuildTables_err : (acceptBuildTables s).err = .none := rfl
@[simp] theorem acceptBuildTables_tablesValid : (acceptBuildTables s).tablesValid = false := rfl
@[simp] theorem acceptBuildTables_overrun : (acceptBuildTables s).overrun = s.overrun := rfl
@[simp] theorem acceptBuildTables_resValid : (acceptBuildTables s).resValid = s.resValid := rfl
@[simp] theorem acceptBuildTables_srcAddr : (acceptBuildTables s).srcAddr = s.srcAddr := rfl
@[simp] theorem acceptBuildTables_srcLen : (acceptBuildTables s).srcLen = s.srcLen := rfl
@[simp] theorem acceptBuildTables_resCrc16 : (acceptBuildTables s).resCrc16 = s.resCrc16 := rfl
@[simp] theorem acceptBuildTables_resCrc32 : (acceptBuildTables s).resCrc32 = s.resCrc32 := rfl
@[simp] theorem acceptBuildTables_resCrc64 : (acceptBuildTables s).resCrc64 = s.resCrc64 := rfl
@[simp] theorem acceptBuildTables_resXxh64 : (acceptBuildTables s).resXxh64 = s.resXxh64 := rfl
@[simp] theorem acceptBuildTables_resXxh128Lo : (acceptBuildTables s).resXxh128Lo = s.resXxh128Lo := rfl
@[simp] theorem acceptBuildTables_resXxh128Hi : (acceptBuildTables s).resXxh128Hi = s.resXxh128Hi := rfl
@[simp] theorem acceptBuildTables_resElapsed : (acceptBuildTables s).resElapsed = s.resElapsed := rfl
@[simp] theorem acceptBuildTables_progress : (acceptBuildTables s).progress = s.progress := rfl
@[simp] theorem acceptBuildTables_lOp : (acceptBuildTables s).lOp = opBuildTables := rfl
@[simp] theorem acceptBuildTables_lAddr : (acceptBuildTables s).lAddr = s.srcAddr := rfl
@[simp] theorem acceptBuildTables_lLen : (acceptBuildTables s).lLen = s.srcLen := rfl
@[simp] theorem acceptBuildTables_lReq : (acceptBuildTables s).lReq = 0 := rfl
@[simp] theorem acceptBuildTables_lProg : (acceptBuildTables s).lProg = false := rfl
@[simp] theorem acceptBuildTables_acc16 : (acceptBuildTables s).acc16 = s.acc16 := rfl
@[simp] theorem acceptBuildTables_acc32 : (acceptBuildTables s).acc32 = s.acc32 := rfl
@[simp] theorem acceptBuildTables_acc64 : (acceptBuildTables s).acc64 = s.acc64 := rfl
@[simp] theorem acceptBuildTables_accXX : (acceptBuildTables s).accXX = s.accXX := rfl
@[simp] theorem acceptBuildTables_count : (acceptBuildTables s).count = s.count := rfl
@[simp] theorem acceptBuildTables_t16 : (acceptBuildTables s).t16 = s.t16 := rfl
@[simp] theorem acceptBuildTables_t64 : (acceptBuildTables s).t64 = s.t64 := rfl
@[simp] theorem acceptBuildTables_backend : (acceptBuildTables s).backend = s.backend := rfl
@[simp] theorem acceptBuildTables_readData : (acceptBuildTables s).readData = s.readData := rfl
@[simp] theorem acceptBuildTables_progressEvents : (acceptBuildTables s).progressEvents = s.progressEvents := rfl
@[simp] theorem acceptBuildTables_mem : (acceptBuildTables s).mem = s.mem := rfl
@[simp] theorem acceptBuildTables_unreadable : (acceptBuildTables s).unreadable = s.unreadable := rfl
@[simp] theorem acceptBuildTables_mutated : (acceptBuildTables s).mutated = s.mutated := rfl
@[simp] theorem acceptBuildTables_scanned : (acceptBuildTables s).scanned = s.scanned := rfl
@[simp] theorem acceptBuildTables_schedule : (acceptBuildTables s).schedule = s.schedule := rfl
@[simp] theorem acceptBuildTables_draws : (acceptBuildTables s).draws = s.draws := rfl

end acceptBuildTablesFields

section beginHashStreamFields
variable (req : BitVec 5) (prog : Bool) (s : State)

@[simp] theorem beginHashStream_engineState : (beginHashStream req prog s).engineState = .busy := rfl
@[simp] theorem beginHashStream_err : (beginHashStream req prog s).err = s.err := rfl
@[simp] theorem beginHashStream_tablesValid : (beginHashStream req prog s).tablesValid = s.tablesValid := rfl
@[simp] theorem beginHashStream_overrun : (beginHashStream req prog s).overrun = s.overrun := rfl
@[simp] theorem beginHashStream_resValid : (beginHashStream req prog s).resValid = s.resValid := rfl
@[simp] theorem beginHashStream_srcAddr : (beginHashStream req prog s).srcAddr = s.srcAddr := rfl
@[simp] theorem beginHashStream_srcLen : (beginHashStream req prog s).srcLen = s.srcLen := rfl
@[simp] theorem beginHashStream_resCrc16 : (beginHashStream req prog s).resCrc16 = s.resCrc16 := rfl
@[simp] theorem beginHashStream_resCrc32 : (beginHashStream req prog s).resCrc32 = s.resCrc32 := rfl
@[simp] theorem beginHashStream_resCrc64 : (beginHashStream req prog s).resCrc64 = s.resCrc64 := rfl
@[simp] theorem beginHashStream_resXxh64 : (beginHashStream req prog s).resXxh64 = s.resXxh64 := rfl
@[simp] theorem beginHashStream_resXxh128Lo : (beginHashStream req prog s).resXxh128Lo = s.resXxh128Lo := rfl
@[simp] theorem beginHashStream_resXxh128Hi : (beginHashStream req prog s).resXxh128Hi = s.resXxh128Hi := rfl
@[simp] theorem beginHashStream_resElapsed : (beginHashStream req prog s).resElapsed = s.resElapsed := rfl
@[simp] theorem beginHashStream_progress : (beginHashStream req prog s).progress = s.progress := rfl
@[simp] theorem beginHashStream_lOp : (beginHashStream req prog s).lOp = opHashStream := rfl
@[simp] theorem beginHashStream_lAddr : (beginHashStream req prog s).lAddr = s.srcAddr := rfl
@[simp] theorem beginHashStream_lLen : (beginHashStream req prog s).lLen = s.srcLen := rfl
@[simp] theorem beginHashStream_lReq : (beginHashStream req prog s).lReq = req := rfl
@[simp] theorem beginHashStream_lTag : (beginHashStream req prog s).lTag = routineTag req := rfl
@[simp] theorem beginHashStream_lProg : (beginHashStream req prog s).lProg = prog := rfl
@[simp] theorem beginHashStream_acc16 : (beginHashStream req prog s).acc16 = crc16Init := rfl
@[simp] theorem beginHashStream_acc32 : (beginHashStream req prog s).acc32 = crc32Init := rfl
@[simp] theorem beginHashStream_acc64 : (beginHashStream req prog s).acc64 = crc64Init := rfl
@[simp] theorem beginHashStream_accXX : (beginHashStream req prog s).accXX = xxhInit := rfl
@[simp] theorem beginHashStream_count : (beginHashStream req prog s).count = 0 := rfl
@[simp] theorem beginHashStream_t16 : (beginHashStream req prog s).t16 = s.t16 := rfl
@[simp] theorem beginHashStream_t64 : (beginHashStream req prog s).t64 = s.t64 := rfl
@[simp] theorem beginHashStream_backend : (beginHashStream req prog s).backend = s.backend := rfl
@[simp] theorem beginHashStream_readData : (beginHashStream req prog s).readData = s.readData := rfl
@[simp] theorem beginHashStream_progressEvents : (beginHashStream req prog s).progressEvents = s.progressEvents := rfl
@[simp] theorem beginHashStream_mem : (beginHashStream req prog s).mem = s.mem := rfl
@[simp] theorem beginHashStream_unreadable : (beginHashStream req prog s).unreadable = s.unreadable := rfl
@[simp] theorem beginHashStream_mutated : (beginHashStream req prog s).mutated = [] := rfl
@[simp] theorem beginHashStream_scanned : (beginHashStream req prog s).scanned = [] := rfl
@[simp] theorem beginHashStream_schedule : (beginHashStream req prog s).schedule = s.schedule := rfl
@[simp] theorem beginHashStream_draws : (beginHashStream req prog s).draws = s.draws := rfl

end beginHashStreamFields

section consumeByteFields
variable (b : Byte) (s : State)

@[simp] theorem consumeByte_engineState : (consumeByte b s).engineState = s.engineState := rfl
@[simp] theorem consumeByte_err : (consumeByte b s).err = s.err := rfl
@[simp] theorem consumeByte_tablesValid : (consumeByte b s).tablesValid = s.tablesValid := rfl
@[simp] theorem consumeByte_overrun : (consumeByte b s).overrun = s.overrun := rfl
@[simp] theorem consumeByte_resValid : (consumeByte b s).resValid = s.resValid := rfl
@[simp] theorem consumeByte_srcAddr : (consumeByte b s).srcAddr = s.srcAddr := rfl
@[simp] theorem consumeByte_srcLen : (consumeByte b s).srcLen = s.srcLen := rfl
@[simp] theorem consumeByte_resCrc16 : (consumeByte b s).resCrc16 = s.resCrc16 := rfl
@[simp] theorem consumeByte_resCrc32 : (consumeByte b s).resCrc32 = s.resCrc32 := rfl
@[simp] theorem consumeByte_resCrc64 : (consumeByte b s).resCrc64 = s.resCrc64 := rfl
@[simp] theorem consumeByte_resXxh64 : (consumeByte b s).resXxh64 = s.resXxh64 := rfl
@[simp] theorem consumeByte_resXxh128Lo : (consumeByte b s).resXxh128Lo = s.resXxh128Lo := rfl
@[simp] theorem consumeByte_resXxh128Hi : (consumeByte b s).resXxh128Hi = s.resXxh128Hi := rfl
@[simp] theorem consumeByte_resElapsed : (consumeByte b s).resElapsed = s.resElapsed := rfl
@[simp] theorem consumeByte_progress : (consumeByte b s).progress = s.progress := rfl
@[simp] theorem consumeByte_lOp : (consumeByte b s).lOp = s.lOp := rfl
@[simp] theorem consumeByte_lAddr : (consumeByte b s).lAddr = s.lAddr := rfl
@[simp] theorem consumeByte_lLen : (consumeByte b s).lLen = s.lLen := rfl
@[simp] theorem consumeByte_lReq : (consumeByte b s).lReq = s.lReq := rfl
@[simp] theorem consumeByte_lTag : (consumeByte b s).lTag = s.lTag := rfl
@[simp] theorem consumeByte_lProg : (consumeByte b s).lProg = s.lProg := rfl
@[simp] theorem consumeByte_acc16 : (consumeByte b s).acc16 = if s.lTag.getLsbD 0 then crc16Step s.t16 s.acc16 b else s.acc16 := rfl
@[simp] theorem consumeByte_acc32 : (consumeByte b s).acc32 = if s.lTag.getLsbD 1 then crc32Step s.backend s.acc32 b else s.acc32 := rfl
@[simp] theorem consumeByte_acc64 : (consumeByte b s).acc64 = if s.lTag.getLsbD 2 then crc64Step s.t64 s.acc64 b else s.acc64 := rfl
@[simp] theorem consumeByte_accXX : (consumeByte b s).accXX = if s.lTag.getLsbD 3 then xxhMix s.accXX b else s.accXX := rfl
@[simp] theorem consumeByte_count : (consumeByte b s).count = s.count + 1 := rfl
@[simp] theorem consumeByte_t16 : (consumeByte b s).t16 = s.t16 := rfl
@[simp] theorem consumeByte_t64 : (consumeByte b s).t64 = s.t64 := rfl
@[simp] theorem consumeByte_backend : (consumeByte b s).backend = s.backend := rfl
@[simp] theorem consumeByte_readData : (consumeByte b s).readData = s.readData := rfl
@[simp] theorem consumeByte_progressEvents : (consumeByte b s).progressEvents = s.progressEvents := rfl
@[simp] theorem consumeByte_mem : (consumeByte b s).mem = s.mem := rfl
@[simp] theorem consumeByte_unreadable : (consumeByte b s).unreadable = s.unreadable := rfl
@[simp] theorem consumeByte_mutated : (consumeByte b s).mutated = s.mutated := rfl
@[simp] theorem consumeByte_scanned : (consumeByte b s).scanned = s.scanned ++ [b] := rfl
@[simp] theorem consumeByte_schedule : (consumeByte b s).schedule = s.schedule := rfl
@[simp] theorem consumeByte_draws : (consumeByte b s).draws = s.draws := rfl

end consumeByteFields

section finalizeStepFields
variable (s : State)

@[simp] theorem finalizeStep_engineState : (finalizeStep s).engineState = .done := rfl
@[simp] theorem finalizeStep_err : (finalizeStep s).err = s.err := rfl
@[simp] theorem finalizeStep_tablesValid : (finalizeStep s).tablesValid = s.tablesValid := rfl
@[simp] theorem finalizeStep_overrun : (finalizeStep s).overrun = s.overrun := rfl
@[simp] theorem finalizeStep_resValid : (finalizeStep s).resValid = s.lReq := rfl
@[simp] theorem finalizeStep_srcAddr : (finalizeStep s).srcAddr = s.srcAddr := rfl
@[simp] theorem finalizeStep_srcLen : (finalizeStep s).srcLen = s.srcLen := rfl
@[simp] theorem finalizeStep_resCrc16 : (finalizeStep s).resCrc16 = if s.lReq.getLsbD 0 then s.acc16 else s.resCrc16 := rfl
@[simp] theorem finalizeStep_resCrc32 : (finalizeStep s).resCrc32 = if s.lReq.getLsbD 1 then crc32Final s.acc32 else s.resCrc32 := rfl
@[simp] theorem finalizeStep_resCrc64 : (finalizeStep s).resCrc64 = if s.lReq.getLsbD 2 then s.acc64 else s.resCrc64 := rfl
@[simp] theorem finalizeStep_resElapsed : (finalizeStep s).resElapsed = drawAt s 0 := rfl
@[simp] theorem finalizeStep_progress : (finalizeStep s).progress = s.progress := rfl
@[simp] theorem finalizeStep_lOp : (finalizeStep s).lOp = s.lOp := rfl
@[simp] theorem finalizeStep_lAddr : (finalizeStep s).lAddr = s.lAddr := rfl
@[simp] theorem finalizeStep_lLen : (finalizeStep s).lLen = s.lLen := rfl
@[simp] theorem finalizeStep_lReq : (finalizeStep s).lReq = s.lReq := rfl
@[simp] theorem finalizeStep_lTag : (finalizeStep s).lTag = s.lTag := rfl
@[simp] theorem finalizeStep_lProg : (finalizeStep s).lProg = s.lProg := rfl
@[simp] theorem finalizeStep_acc16 : (finalizeStep s).acc16 = s.acc16 := rfl
@[simp] theorem finalizeStep_acc32 : (finalizeStep s).acc32 = s.acc32 := rfl
@[simp] theorem finalizeStep_acc64 : (finalizeStep s).acc64 = s.acc64 := rfl
@[simp] theorem finalizeStep_accXX : (finalizeStep s).accXX = s.accXX := rfl
@[simp] theorem finalizeStep_count : (finalizeStep s).count = s.count := rfl
@[simp] theorem finalizeStep_t16 : (finalizeStep s).t16 = s.t16 := rfl
@[simp] theorem finalizeStep_t64 : (finalizeStep s).t64 = s.t64 := rfl
@[simp] theorem finalizeStep_backend : (finalizeStep s).backend = s.backend := rfl
@[simp] theorem finalizeStep_readData : (finalizeStep s).readData = s.readData := rfl
@[simp] theorem finalizeStep_progressEvents : (finalizeStep s).progressEvents = s.progressEvents := rfl
@[simp] theorem finalizeStep_mem : (finalizeStep s).mem = s.mem := rfl
@[simp] theorem finalizeStep_unreadable : (finalizeStep s).unreadable = s.unreadable := rfl
@[simp] theorem finalizeStep_mutated : (finalizeStep s).mutated = s.mutated := rfl
@[simp] theorem finalizeStep_scanned : (finalizeStep s).scanned = s.scanned := rfl
@[simp] theorem finalizeStep_schedule : (finalizeStep s).schedule = s.schedule := rfl
@[simp] theorem finalizeStep_draws : (finalizeStep s).draws = s.draws + 1 := rfl

end finalizeStepFields

section recordStoreFields
variable (addr : Word) (byte : Byte) (s : State)

@[simp] theorem recordStore_engineState : (recordStore addr byte s).engineState = s.engineState := rfl
@[simp] theorem recordStore_err : (recordStore addr byte s).err = s.err := rfl
@[simp] theorem recordStore_tablesValid : (recordStore addr byte s).tablesValid = s.tablesValid := rfl
@[simp] theorem recordStore_overrun : (recordStore addr byte s).overrun = s.overrun := rfl
@[simp] theorem recordStore_resValid : (recordStore addr byte s).resValid = s.resValid := rfl
@[simp] theorem recordStore_srcAddr : (recordStore addr byte s).srcAddr = s.srcAddr := rfl
@[simp] theorem recordStore_srcLen : (recordStore addr byte s).srcLen = s.srcLen := rfl
@[simp] theorem recordStore_resCrc16 : (recordStore addr byte s).resCrc16 = s.resCrc16 := rfl
@[simp] theorem recordStore_resCrc32 : (recordStore addr byte s).resCrc32 = s.resCrc32 := rfl
@[simp] theorem recordStore_resCrc64 : (recordStore addr byte s).resCrc64 = s.resCrc64 := rfl
@[simp] theorem recordStore_resXxh64 : (recordStore addr byte s).resXxh64 = s.resXxh64 := rfl
@[simp] theorem recordStore_resXxh128Lo : (recordStore addr byte s).resXxh128Lo = s.resXxh128Lo := rfl
@[simp] theorem recordStore_resXxh128Hi : (recordStore addr byte s).resXxh128Hi = s.resXxh128Hi := rfl
@[simp] theorem recordStore_resElapsed : (recordStore addr byte s).resElapsed = s.resElapsed := rfl
@[simp] theorem recordStore_progress : (recordStore addr byte s).progress = s.progress := rfl
@[simp] theorem recordStore_lOp : (recordStore addr byte s).lOp = s.lOp := rfl
@[simp] theorem recordStore_lAddr : (recordStore addr byte s).lAddr = s.lAddr := rfl
@[simp] theorem recordStore_lLen : (recordStore addr byte s).lLen = s.lLen := rfl
@[simp] theorem recordStore_lReq : (recordStore addr byte s).lReq = s.lReq := rfl
@[simp] theorem recordStore_lTag : (recordStore addr byte s).lTag = s.lTag := rfl
@[simp] theorem recordStore_lProg : (recordStore addr byte s).lProg = s.lProg := rfl
@[simp] theorem recordStore_acc16 : (recordStore addr byte s).acc16 = s.acc16 := rfl
@[simp] theorem recordStore_acc32 : (recordStore addr byte s).acc32 = s.acc32 := rfl
@[simp] theorem recordStore_acc64 : (recordStore addr byte s).acc64 = s.acc64 := rfl
@[simp] theorem recordStore_accXX : (recordStore addr byte s).accXX = s.accXX := rfl
@[simp] theorem recordStore_count : (recordStore addr byte s).count = s.count := rfl
@[simp] theorem recordStore_t16 : (recordStore addr byte s).t16 = s.t16 := rfl
@[simp] theorem recordStore_t64 : (recordStore addr byte s).t64 = s.t64 := rfl
@[simp] theorem recordStore_backend : (recordStore addr byte s).backend = s.backend := rfl
@[simp] theorem recordStore_readData : (recordStore addr byte s).readData = s.readData := rfl
@[simp] theorem recordStore_progressEvents : (recordStore addr byte s).progressEvents = s.progressEvents := rfl
@[simp] theorem recordStore_mem : (recordStore addr byte s).mem = Memory.write s.mem addr.toNat byte := rfl
@[simp] theorem recordStore_unreadable : (recordStore addr byte s).unreadable = s.unreadable := rfl
@[simp] theorem recordStore_mutated : (recordStore addr byte s).mutated = 
    if inRunningSource s addr && !s.mutated.contains addr then addr :: s.mutated else s.mutated := rfl
@[simp] theorem recordStore_scanned : (recordStore addr byte s).scanned = s.scanned := rfl
@[simp] theorem recordStore_schedule : (recordStore addr byte s).schedule = s.schedule := rfl
@[simp] theorem recordStore_draws : (recordStore addr byte s).draws = s.draws := rfl

end recordStoreFields

section redrawByteFields
variable (k : Nat) (s : State)

@[simp] theorem redrawByte_engineState : (redrawByte k s).engineState = s.engineState := rfl
@[simp] theorem redrawByte_err : (redrawByte k s).err = s.err := rfl
@[simp] theorem redrawByte_tablesValid : (redrawByte k s).tablesValid = s.tablesValid := rfl
@[simp] theorem redrawByte_overrun : (redrawByte k s).overrun = s.overrun := rfl
@[simp] theorem redrawByte_resValid : (redrawByte k s).resValid = s.resValid := rfl
@[simp] theorem redrawByte_srcAddr : (redrawByte k s).srcAddr = s.srcAddr := rfl
@[simp] theorem redrawByte_srcLen : (redrawByte k s).srcLen = s.srcLen := rfl
@[simp] theorem redrawByte_resCrc16 : (redrawByte k s).resCrc16 = s.resCrc16 := rfl
@[simp] theorem redrawByte_resCrc32 : (redrawByte k s).resCrc32 = s.resCrc32 := rfl
@[simp] theorem redrawByte_resCrc64 : (redrawByte k s).resCrc64 = s.resCrc64 := rfl
@[simp] theorem redrawByte_resXxh64 : (redrawByte k s).resXxh64 = s.resXxh64 := rfl
@[simp] theorem redrawByte_resXxh128Lo : (redrawByte k s).resXxh128Lo = s.resXxh128Lo := rfl
@[simp] theorem redrawByte_resXxh128Hi : (redrawByte k s).resXxh128Hi = s.resXxh128Hi := rfl
@[simp] theorem redrawByte_resElapsed : (redrawByte k s).resElapsed = s.resElapsed := rfl
@[simp] theorem redrawByte_progress : (redrawByte k s).progress = s.progress := rfl
@[simp] theorem redrawByte_lOp : (redrawByte k s).lOp = s.lOp := rfl
@[simp] theorem redrawByte_lAddr : (redrawByte k s).lAddr = s.lAddr := rfl
@[simp] theorem redrawByte_lLen : (redrawByte k s).lLen = s.lLen := rfl
@[simp] theorem redrawByte_lReq : (redrawByte k s).lReq = s.lReq := rfl
@[simp] theorem redrawByte_lTag : (redrawByte k s).lTag = s.lTag := rfl
@[simp] theorem redrawByte_lProg : (redrawByte k s).lProg = s.lProg := rfl
@[simp] theorem redrawByte_acc16 : (redrawByte k s).acc16 = acc16After s (s.scanned.set k ((drawAt s 0).setWidth 8)) := rfl
@[simp] theorem redrawByte_acc32 : (redrawByte k s).acc32 = acc32After s (s.scanned.set k ((drawAt s 0).setWidth 8)) := rfl
@[simp] theorem redrawByte_acc64 : (redrawByte k s).acc64 = acc64After s (s.scanned.set k ((drawAt s 0).setWidth 8)) := rfl
@[simp] theorem redrawByte_accXX : (redrawByte k s).accXX = accXXAfter s (s.scanned.set k ((drawAt s 0).setWidth 8)) := rfl
@[simp] theorem redrawByte_count : (redrawByte k s).count = s.count := rfl
@[simp] theorem redrawByte_t16 : (redrawByte k s).t16 = s.t16 := rfl
@[simp] theorem redrawByte_t64 : (redrawByte k s).t64 = s.t64 := rfl
@[simp] theorem redrawByte_backend : (redrawByte k s).backend = s.backend := rfl
@[simp] theorem redrawByte_readData : (redrawByte k s).readData = s.readData := rfl
@[simp] theorem redrawByte_progressEvents : (redrawByte k s).progressEvents = s.progressEvents := rfl
@[simp] theorem redrawByte_mem : (redrawByte k s).mem = s.mem := rfl
@[simp] theorem redrawByte_unreadable : (redrawByte k s).unreadable = s.unreadable := rfl
@[simp] theorem redrawByte_mutated : (redrawByte k s).mutated = s.mutated := rfl
@[simp] theorem redrawByte_scanned : (redrawByte k s).scanned = s.scanned.set k ((drawAt s 0).setWidth 8) := rfl
@[simp] theorem redrawByte_schedule : (redrawByte k s).schedule = s.schedule := rfl
@[simp] theorem redrawByte_draws : (redrawByte k s).draws = s.draws + 1 := rfl

end redrawByteFields

/-- A field that redrawByte leaves alone is after a host store what recordStore makes it. -/
theorem hostStore_field {α : Type} (f : State → α) (hf : ∀ k s, f (redrawByte k s) = f s) (addr : Word) (byte : Byte)
    (s : State) :
    f (hostStore addr byte s) = f (recordStore addr byte s) := by
  unfold hostStore
  split
  · exact hf _ _
  · rfl

section hostStoreFields
variable (addr : Word) (byte : Byte) (s : State)

@[simp] theorem hostStore_engineState : (hostStore addr byte s).engineState = s.engineState :=
  hostStore_field State.engineState (fun _ _ => rfl) addr byte s
@[simp] theorem hostStore_err : (hostStore addr byte s).err = s.err :=
  hostStore_field State.err (fun _ _ => rfl) addr byte s
@[simp] theorem hostStore_tablesValid : (hostStore addr byte s).tablesValid = s.tablesValid :=
  hostStore_field State.tablesValid (fun _ _ => rfl) addr byte s
@[simp] theorem hostStore_overrun : (hostStore addr byte s).overrun = s.overrun :=
  hostStore_field State.overrun (fun _ _ => rfl) addr byte s
@[simp] theorem hostStore_resValid : (hostStore addr byte s).resValid = s.resValid :=
  hostStore_field State.resValid (fun _ _ => rfl) addr byte s
@[simp] theorem hostStore_srcAddr : (hostStore addr byte s).srcAddr = s.srcAddr :=
  hostStore_field State.srcAddr (fun _ _ => rfl) addr byte s
@[simp] theorem hostStore_srcLen : (hostStore addr byte s).srcLen = s.srcLen :=
  hostStore_field State.srcLen (fun _ _ => rfl) addr byte s
@[simp] theorem hostStore_resCrc16 : (hostStore addr byte s).resCrc16 = s.resCrc16 :=
  hostStore_field State.resCrc16 (fun _ _ => rfl) addr byte s
@[simp] theorem hostStore_resCrc32 : (hostStore addr byte s).resCrc32 = s.resCrc32 :=
  hostStore_field State.resCrc32 (fun _ _ => rfl) addr byte s
@[simp] theorem hostStore_resCrc64 : (hostStore addr byte s).resCrc64 = s.resCrc64 :=
  hostStore_field State.resCrc64 (fun _ _ => rfl) addr byte s
@[simp] theorem hostStore_resXxh64 : (hostStore addr byte s).resXxh64 = s.resXxh64 :=
  hostStore_field State.resXxh64 (fun _ _ => rfl) addr byte s
@[simp] theorem hostStore_resXxh128Lo : (hostStore addr byte s).resXxh128Lo = s.resXxh128Lo :=
  hostStore_field State.resXxh128Lo (fun _ _ => rfl) addr byte s
@[simp] theorem hostStore_resXxh128Hi : (hostStore addr byte s).resXxh128Hi = s.resXxh128Hi :=
  hostStore_field State.resXxh128Hi (fun _ _ => rfl) addr byte s
@[simp] theorem hostStore_resElapsed : (hostStore addr byte s).resElapsed = s.resElapsed :=
  hostStore_field State.resElapsed (fun _ _ => rfl) addr byte s
@[simp] theorem hostStore_progress : (hostStore addr byte s).progress = s.progress :=
  hostStore_field State.progress (fun _ _ => rfl) addr byte s
@[simp] theorem hostStore_lOp : (hostStore addr byte s).lOp = s.lOp :=
  hostStore_field State.lOp (fun _ _ => rfl) addr byte s
@[simp] theorem hostStore_lAddr : (hostStore addr byte s).lAddr = s.lAddr :=
  hostStore_field State.lAddr (fun _ _ => rfl) addr byte s
@[simp] theorem hostStore_lLen : (hostStore addr byte s).lLen = s.lLen :=
  hostStore_field State.lLen (fun _ _ => rfl) addr byte s
@[simp] theorem hostStore_lReq : (hostStore addr byte s).lReq = s.lReq :=
  hostStore_field State.lReq (fun _ _ => rfl) addr byte s
@[simp] theorem hostStore_lTag : (hostStore addr byte s).lTag = s.lTag :=
  hostStore_field State.lTag (fun _ _ => rfl) addr byte s
@[simp] theorem hostStore_lProg : (hostStore addr byte s).lProg = s.lProg :=
  hostStore_field State.lProg (fun _ _ => rfl) addr byte s
@[simp] theorem hostStore_count : (hostStore addr byte s).count = s.count :=
  hostStore_field State.count (fun _ _ => rfl) addr byte s
@[simp] theorem hostStore_t16 : (hostStore addr byte s).t16 = s.t16 :=
  hostStore_field State.t16 (fun _ _ => rfl) addr byte s
@[simp] theorem hostStore_t64 : (hostStore addr byte s).t64 = s.t64 :=
  hostStore_field State.t64 (fun _ _ => rfl) addr byte s
@[simp] theorem hostStore_backend : (hostStore addr byte s).backend = s.backend :=
  hostStore_field State.backend (fun _ _ => rfl) addr byte s
@[simp] theorem hostStore_readData : (hostStore addr byte s).readData = s.readData :=
  hostStore_field State.readData (fun _ _ => rfl) addr byte s
@[simp] theorem hostStore_progressEvents : (hostStore addr byte s).progressEvents = s.progressEvents :=
  hostStore_field State.progressEvents (fun _ _ => rfl) addr byte s
@[simp] theorem hostStore_mem : (hostStore addr byte s).mem = Memory.write s.mem addr.toNat byte :=
  hostStore_field State.mem (fun _ _ => rfl) addr byte s
@[simp] theorem hostStore_unreadable : (hostStore addr byte s).unreadable = s.unreadable :=
  hostStore_field State.unreadable (fun _ _ => rfl) addr byte s
@[simp] theorem hostStore_mutated : (hostStore addr byte s).mutated = 
    if inRunningSource s addr && !s.mutated.contains addr then addr :: s.mutated else s.mutated :=
  hostStore_field State.mutated (fun _ _ => rfl) addr byte s
@[simp] theorem hostStore_schedule : (hostStore addr byte s).schedule = s.schedule :=
  hostStore_field State.schedule (fun _ _ => rfl) addr byte s

end hostStoreFields

section applyResetFields
variable (s : State)

@[simp] theorem applyReset_engineState : (applyReset s).engineState = .idle := rfl
@[simp] theorem applyReset_err : (applyReset s).err = .none := rfl
@[simp] theorem applyReset_tablesValid : (applyReset s).tablesValid = false := rfl
@[simp] theorem applyReset_overrun : (applyReset s).overrun = false := rfl
@[simp] theorem applyReset_resValid : (applyReset s).resValid = 0 := rfl
@[simp] theorem applyReset_srcAddr : (applyReset s).srcAddr = 0 := rfl
@[simp] theorem applyReset_srcLen : (applyReset s).srcLen = 0 := rfl
@[simp] theorem applyReset_resCrc16 : (applyReset s).resCrc16 = 0 := rfl
@[simp] theorem applyReset_resCrc32 : (applyReset s).resCrc32 = 0 := rfl
@[simp] theorem applyReset_resCrc64 : (applyReset s).resCrc64 = 0 := rfl
@[simp] theorem applyReset_resXxh64 : (applyReset s).resXxh64 = 0 := rfl
@[simp] theorem applyReset_resXxh128Lo : (applyReset s).resXxh128Lo = 0 := rfl
@[simp] theorem applyReset_resXxh128Hi : (applyReset s).resXxh128Hi = 0 := rfl
@[simp] theorem applyReset_resElapsed : (applyReset s).resElapsed = 0 := rfl
@[simp] theorem applyReset_progress : (applyReset s).progress = 0 := rfl
@[simp] theorem applyReset_backend : (applyReset s).backend = selectBackend Config.hasHwCrc32 := rfl
@[simp] theorem applyReset_readData : (applyReset s).readData = s.readData := rfl
@[simp] theorem applyReset_progressEvents : (applyReset s).progressEvents = s.progressEvents := rfl
@[simp] theorem applyReset_mem : (applyReset s).mem = s.mem := rfl
@[simp] theorem applyReset_unreadable : (applyReset s).unreadable = s.unreadable := rfl
@[simp] theorem applyReset_mutated : (applyReset s).mutated = [] := rfl
@[simp] theorem applyReset_scanned : (applyReset s).scanned = [] := rfl
@[simp] theorem applyReset_schedule : (applyReset s).schedule = s.schedule := rfl
@[simp] theorem applyReset_draws : (applyReset s).draws = s.draws + resetDraws := rfl

end applyResetFields

section emitProgressFields
variable (s : State)

@[simp] theorem emitProgress_engineState : (emitProgress s).engineState = s.engineState := rfl
@[simp] theorem emitProgress_err : (emitProgress s).err = s.err := rfl
@[simp] theorem emitProgress_tablesValid : (emitProgress s).tablesValid = s.tablesValid := rfl
@[simp] theorem emitProgress_overrun : (emitProgress s).overrun = s.overrun := rfl
@[simp] theorem emitProgress_resValid : (emitProgress s).resValid = s.resValid := rfl
@[simp] theorem emitProgress_srcAddr : (emitProgress s).srcAddr = s.srcAddr := rfl
@[simp] theorem emitProgress_srcLen : (emitProgress s).srcLen = s.srcLen := rfl
@[simp] theorem emitProgress_resCrc16 : (emitProgress s).resCrc16 = s.resCrc16 := rfl
@[simp] theorem emitProgress_resCrc32 : (emitProgress s).resCrc32 = s.resCrc32 := rfl
@[simp] theorem emitProgress_resCrc64 : (emitProgress s).resCrc64 = s.resCrc64 := rfl
@[simp] theorem emitProgress_resXxh64 : (emitProgress s).resXxh64 = s.resXxh64 := rfl
@[simp] theorem emitProgress_resXxh128Lo : (emitProgress s).resXxh128Lo = s.resXxh128Lo := rfl
@[simp] theorem emitProgress_resXxh128Hi : (emitProgress s).resXxh128Hi = s.resXxh128Hi := rfl
@[simp] theorem emitProgress_resElapsed : (emitProgress s).resElapsed = s.resElapsed := rfl
@[simp] theorem emitProgress_lOp : (emitProgress s).lOp = s.lOp := rfl
@[simp] theorem emitProgress_lAddr : (emitProgress s).lAddr = s.lAddr := rfl
@[simp] theorem emitProgress_lLen : (emitProgress s).lLen = s.lLen := rfl
@[simp] theorem emitProgress_lReq : (emitProgress s).lReq = s.lReq := rfl
@[simp] theorem emitProgress_lTag : (emitProgress s).lTag = s.lTag := rfl
@[simp] theorem emitProgress_lProg : (emitProgress s).lProg = s.lProg := rfl
@[simp] theorem emitProgress_acc16 : (emitProgress s).acc16 = s.acc16 := rfl
@[simp] theorem emitProgress_acc32 : (emitProgress s).acc32 = s.acc32 := rfl
@[simp] theorem emitProgress_acc64 : (emitProgress s).acc64 = s.acc64 := rfl
@[simp] theorem emitProgress_accXX : (emitProgress s).accXX = s.accXX := rfl
@[simp] theorem emitProgress_count : (emitProgress s).count = s.count := rfl
@[simp] theorem emitProgress_t16 : (emitProgress s).t16 = s.t16 := rfl
@[simp] theorem emitProgress_t64 : (emitProgress s).t64 = s.t64 := rfl
@[simp] theorem emitProgress_backend : (emitProgress s).backend = s.backend := rfl
@[simp] theorem emitProgress_readData : (emitProgress s).readData = s.readData := rfl
@[simp] theorem emitProgress_mem : (emitProgress s).mem = s.mem := rfl
@[simp] theorem emitProgress_unreadable : (emitProgress s).unreadable = s.unreadable := rfl
@[simp] theorem emitProgress_mutated : (emitProgress s).mutated = s.mutated := rfl
@[simp] theorem emitProgress_scanned : (emitProgress s).scanned = s.scanned := rfl
@[simp] theorem emitProgress_schedule : (emitProgress s).schedule = s.schedule := rfl
@[simp] theorem emitProgress_draws : (emitProgress s).draws = s.draws := rfl

end emitProgressFields

section afterScanReadFields
variable (s : State)

@[simp] theorem afterScanRead_engineState : (afterScanRead s).engineState = s.engineState := rfl
@[simp] theorem afterScanRead_err : (afterScanRead s).err = s.err := rfl
@[simp] theorem afterScanRead_tablesValid : (afterScanRead s).tablesValid = s.tablesValid := rfl
@[simp] theorem afterScanRead_overrun : (afterScanRead s).overrun = s.overrun := rfl
@[simp] theorem afterScanRead_resValid : (afterScanRead s).resValid = s.resValid := rfl
@[simp] theorem afterScanRead_srcAddr : (afterScanRead s).srcAddr = s.srcAddr := rfl
@[simp] theorem afterScanRead_srcLen : (afterScanRead s).srcLen = s.srcLen := rfl
@[simp] theorem afterScanRead_resCrc16 : (afterScanRead s).resCrc16 = s.resCrc16 := rfl
@[simp] theorem afterScanRead_resCrc32 : (afterScanRead s).resCrc32 = s.resCrc32 := rfl
@[simp] theorem afterScanRead_resCrc64 : (afterScanRead s).resCrc64 = s.resCrc64 := rfl
@[simp] theorem afterScanRead_resXxh64 : (afterScanRead s).resXxh64 = s.resXxh64 := rfl
@[simp] theorem afterScanRead_resXxh128Lo : (afterScanRead s).resXxh128Lo = s.resXxh128Lo := rfl
@[simp] theorem afterScanRead_resXxh128Hi : (afterScanRead s).resXxh128Hi = s.resXxh128Hi := rfl
@[simp] theorem afterScanRead_resElapsed : (afterScanRead s).resElapsed = s.resElapsed := rfl
@[simp] theorem afterScanRead_progress : (afterScanRead s).progress = s.progress := rfl
@[simp] theorem afterScanRead_lOp : (afterScanRead s).lOp = s.lOp := rfl
@[simp] theorem afterScanRead_lAddr : (afterScanRead s).lAddr = s.lAddr := rfl
@[simp] theorem afterScanRead_lLen : (afterScanRead s).lLen = s.lLen := rfl
@[simp] theorem afterScanRead_lReq : (afterScanRead s).lReq = s.lReq := rfl
@[simp] theorem afterScanRead_lTag : (afterScanRead s).lTag = s.lTag := rfl
@[simp] theorem afterScanRead_lProg : (afterScanRead s).lProg = s.lProg := rfl
@[simp] theorem afterScanRead_acc16 : (afterScanRead s).acc16 = s.acc16 := rfl
@[simp] theorem afterScanRead_acc32 : (afterScanRead s).acc32 = s.acc32 := rfl
@[simp] theorem afterScanRead_acc64 : (afterScanRead s).acc64 = s.acc64 := rfl
@[simp] theorem afterScanRead_accXX : (afterScanRead s).accXX = s.accXX := rfl
@[simp] theorem afterScanRead_count : (afterScanRead s).count = s.count := rfl
@[simp] theorem afterScanRead_t16 : (afterScanRead s).t16 = s.t16 := rfl
@[simp] theorem afterScanRead_t64 : (afterScanRead s).t64 = s.t64 := rfl
@[simp] theorem afterScanRead_backend : (afterScanRead s).backend = s.backend := rfl
@[simp] theorem afterScanRead_readData : (afterScanRead s).readData = s.readData := rfl
@[simp] theorem afterScanRead_progressEvents : (afterScanRead s).progressEvents = s.progressEvents := rfl
@[simp] theorem afterScanRead_mem : (afterScanRead s).mem = s.mem := rfl
@[simp] theorem afterScanRead_unreadable : (afterScanRead s).unreadable = s.unreadable := rfl
@[simp] theorem afterScanRead_mutated : (afterScanRead s).mutated = s.mutated := rfl
@[simp] theorem afterScanRead_scanned : (afterScanRead s).scanned = s.scanned := rfl
@[simp] theorem afterScanRead_schedule : (afterScanRead s).schedule = s.schedule := rfl

end afterScanReadFields

end Sys2Proof.Machine
end

