-- ==== Sys2Proof/Laws/Memory.lean ====
section
/-! SUPPORT. Host memory: a read after a write, the canonical form kept by every operation, and what `readable` says of each
byte. -/

namespace Sys2Proof.Machine

theorem Memory.read_write_same (m : List Host.Cell) (h : m.Pairwise (fun x y => x.1 < y.1)) (a : Nat) (v : Byte) :
    Memory.read (Memory.write m a v) a = v := by
  induction m with
  | nil => simp only [Memory.write]; split <;> simp_all [Memory.read]
  | cons c rest ih =>
    obtain ⟨k, x⟩ := c
    have hrest := (List.pairwise_cons.1 h)
    simp only [Memory.write]
    have gap : ∀ l : List Host.Cell, (∀ c ∈ l, a < c.1) → Memory.read l a = Memory.unlisted := by
      intro l hl
      induction l with
      | nil => rfl
      | cons d l ihl =>
        have hd := hl d (by simp)
        have : ¬ d.1 = a := by omega
        simp only [Memory.read, this, if_false]
        exact ihl (fun c hc => hl c (by simp [hc]))
    split
    · rename_i hlt
      split
      · rename_i hv
        rw [hv]
        exact gap _ (by intro c hc; rcases List.mem_cons.1 hc with rfl | hc; exact hlt; exact lt_trans hlt (hrest.1 c hc))
      · simp [Memory.read]
    · split
      · rename_i heq
        split
        · rename_i hv
          rw [hv]
          exact gap _ (by intro c hc; have := hrest.1 c hc; simp only at this; omega)
        · simp [Memory.read]
      · rename_i hne
        simp only [Memory.read, Ne.symm hne, if_false]
        exact ih hrest.2

theorem Memory.read_write_other (m : List Host.Cell) (h : m.Pairwise (fun x y => x.1 < y.1)) (a b : Nat) (v : Byte)
    (hab : b ≠ a) : Memory.read (Memory.write m a v) b = Memory.read m b := by
  induction m with
  | nil => simp only [Memory.write]; split <;> simp [Memory.read, Ne.symm hab]
  | cons c rest ih =>
    obtain ⟨k, x⟩ := c
    simp only [Memory.write]
    split
    · split <;> simp [Memory.read, Ne.symm hab]
    · split
      · rename_i heq
        subst heq
        split <;> simp [Memory.read, Ne.symm hab]
      · simp only [Memory.read]
        rw [ih (List.pairwise_cons.1 h).2]

theorem Memory.mem_write (m : List Host.Cell) (a : Nat) (v : Byte) (c : Host.Cell) (hc : c ∈ Memory.write m a v) :
    (c = (a, v) ∧ v ≠ Memory.unlisted) ∨ c ∈ m := by
  induction m with
  | nil =>
    simp only [Memory.write] at hc
    split at hc <;> simp_all
  | cons d rest ih =>
    obtain ⟨k, x⟩ := d
    simp only [Memory.write] at hc
    split at hc
    · split at hc <;> simp_all
    · split at hc
      · split at hc
        · exact Or.inr (List.mem_cons_of_mem _ hc)
        · rcases List.mem_cons.1 hc with h | h
          · exact Or.inl ⟨h, by assumption⟩
          · exact Or.inr (List.mem_cons_of_mem _ h)
      · rcases List.mem_cons.1 hc with h | h
        · exact Or.inr (by simp [h])
        · rcases ih h with h | h
          · exact Or.inl h
          · exact Or.inr (List.mem_cons_of_mem _ h)

theorem Memory.write_wf (m : List Host.Cell) (h : Memory.wf m) (a : Nat) (ha : a < addressSpace) (v : Byte) :
    Memory.wf (Memory.write m a v) := by
  refine ⟨?_, ?_⟩
  · have hs := h.1
    clear h
    induction m with
    | nil => simp only [Memory.write]; split <;> simp
    | cons d rest ih =>
      obtain ⟨k, x⟩ := d
      have hp := List.pairwise_cons.1 hs
      simp only [Memory.write]
      split
      · rename_i hlt
        split
        · exact hs
        · refine List.pairwise_cons.2 ⟨?_, hs⟩
          intro c hc
          rcases List.mem_cons.1 hc with rfl | hc
          · exact hlt
          · exact lt_trans hlt (hp.1 c hc)
      · split
        · rename_i heq
          split
          · exact hp.2
          · exact List.pairwise_cons.2 ⟨fun c hc => by have := hp.1 c hc; simp only at this ⊢; omega, hp.2⟩
        · rename_i hge hne
          refine List.pairwise_cons.2 ⟨?_, ih hp.2⟩
          intro c hc
          rcases Memory.mem_write rest a v c hc with ⟨rfl, _⟩ | hc
          · simp only; omega
          · exact hp.1 c hc
  · intro c hc
    rcases Memory.mem_write m a v c hc with ⟨rfl, hv⟩ | hc
    · exact ⟨ha, hv⟩
    · exact h.2 c hc

theorem hostStore_memWf (addr : Word) (byte : Byte) (s : State) (h : Memory.wf s.mem) :
    Memory.wf (hostStore addr byte s).mem := by
  rw [hostStore_mem]
  exact Memory.write_wf s.mem h addr.toNat addr.isLt byte

theorem reset_memWf : Memory.wf State.reset.mem := ⟨List.Pairwise.nil, by intro c hc; cases hc⟩

/-- A region avoids a range exactly when it holds none of the range's bytes. -/
theorem regionAvoids_iff (r : Region) (a n : Nat) :
    regionAvoids r a n = true ↔ ∀ x, a ≤ x → x < a + n → ¬ (r.base ≤ x ∧ x < r.base + r.size) := by
  simp only [regionAvoids, decide_eq_true_eq]
  constructor
  · intro h x h1 h2 h3
    omega
  · intro h
    by_contra hc
    exact h (max a r.base) (by omega) (by omega) ⟨by omega, by omega⟩

/-- `readable` says that every byte of the range can be read. -/
theorem readable_iff (unreadable : List Region) (a n : Nat) :
    readable unreadable a n = true ↔ everyByteReadable unreadable a n := by
  simp only [readable, List.all_eq_true, everyByteReadable, regionAvoids_iff]
  constructor
  · intro h x h1 h2 r hr
    exact h r hr x h1 h2
  · intro h r hr x h1 h2
    exact h x h1 h2 r hr

/-- The bounds check (20_memory.md R62). -/
theorem boundsOk_iff (unreadable : List Region) (addr len : Word) :
    boundsOk unreadable addr len = true ↔
      everyByteReadable unreadable addr.toNat len.toNat ∧ addr.toNat + len.toNat ≤ addressSpace := by
  simp only [boundsOk, Bool.and_eq_true, readable_iff, decide_eq_true_eq]

end Sys2Proof.Machine
end

