-- ==== Sys2Proof/Laws/Tables.lean ====
section
/-! SUPPORT. The lookup tables entry by entry. -/

namespace Sys2Proof.Machine

theorem tableAt_ofFn {w : Nat} (f : Fin 256 → BitVec w) (i : BitVec 8) :
    tableAt (Vector.ofFn f) i = f ⟨i.toNat, Nat.lt_of_lt_of_le i.isLt (by decide)⟩ := by
  simp only [tableAt, Vector.getElem_ofFn]

/-- Entry b of the built T16 (40_table_generator.md R131). -/
theorem tableAt_builtT16 (b : BitVec 8) : tableAt builtT16 b = tableEntry poly16 b := by
  rw [builtT16, tableAt_ofFn, BitVec.ofNat_toNat, BitVec.setWidth_eq]

/-- Entry b of the built T64 (40_table_generator.md R131). -/
theorem tableAt_builtT64 (b : BitVec 8) : tableAt builtT64 b = tableEntry poly64 b := by
  rw [builtT64, tableAt_ofFn, BitVec.ofNat_toNat, BitVec.setWidth_eq]

end Sys2Proof.Machine
end

