-- ==== Sys2Proof/Laws/Ops.lean ====
section
/-! SUPPORT. What each shared operation can do, said once: the callers cite these instead of unfolding the operation. -/

namespace Sys2Proof.Machine

/-! ### Commands -/

/-- A command issued while BUSY only sets OVERRUN (10_state.md R38). -/
theorem issueCommand_busy {s : State} (h : s.engineState = .busy) (f : State → State) : issueCommand f s = setOverrun s := by
  simp [issueCommand, h]

/-- A command issued otherwise is accepted with the results cleared (44_dispatcher.md R210). -/
theorem issueCommand_accept {s : State} (h : s.engineState ≠ .busy) (f : State → State) :
    issueCommand f s = f (clearResults s) := by
  simp [issueCommand, h]

/-- The checks pass exactly on a nonempty ByteSource in bounds whose request has the tables it needs (60_exceptions.md
R257). -/
theorem hashStreamCheck_none_iff (req : BitVec 5) (s : State) :
    hashStreamCheck req s = .none ↔
      s.srcLen ≠ 0 ∧ boundsOk s.unreadable s.srcAddr s.srcLen = true ∧ (needsTables req = true → s.tablesValid = true) := by
  unfold hashStreamCheck
  split
  · simp_all
  · split
    · simp_all
    · split <;> simp_all

/-- The acceptance of a HASH_STREAM begins it or raises the error of the first check that fails (60_exceptions.md R257). -/
theorem acceptHashStream_cases (req : BitVec 5) (prog : Bool) (s : State) :
    (hashStreamCheck req s = .none ∧ acceptHashStream req prog s = beginHashStream req prog s) ∨
    (∃ code, code ≠ .none ∧ hashStreamCheck req s = code ∧ acceptHashStream req prog s = raiseError code s) := by
  cases h : hashStreamCheck req s <;> simp [acceptHashStream, h]

/-- The acceptance of a command word is that of the command it decodes to, or ILLEGAL_COMMAND (44_dispatcher.md R210). -/
theorem acceptCommand_cases (v : Word) (s : State) :
    acceptCommand v s = acceptBuildTables s ∨ (∃ req prog, acceptCommand v s = acceptHashStream req prog s) ∨
    acceptCommand v s = raiseError .illegalCommand s := by
  unfold acceptCommand
  split
  · exact .inl rfl
  · exact .inr (.inl ⟨_, _, rfl⟩)
  · exact .inr (.inr rfl)
  · exact .inr (.inr rfl)
  · exact .inr (.inr rfl)

/-- The only effects a register write can have (20_memory.md R66, 44_dispatcher.md R210). -/
theorem writeReg_cases (v : Word) (r : Reg) (s : State) :
    writeReg v r s = s ∨ writeReg v r s = setOverrun s ∨
    (s.engineState ≠ .busy ∧ (writeReg v r s = { s with srcAddr := v } ∨ writeReg v r s = { s with srcLen := v } ∨
      writeReg v r s = acceptCommand v (clearResults s))) := by
  cases r <;> simp only [writeReg, true_or, writeSrcAddr, writeSrcLen, issueCommand] <;>
    by_cases h : s.engineState = .busy <;> simp [h]

/-! ### Instructions -/

/-- What an instruction that answers a next state has done, over all four. -/
theorem exec_cases {i : Instr} {s t : State} (h : exec i s = .next t) :
    t = s ∨ t = setOverrun s ∨ (∃ v, t = { s with readData := v }) ∨
    (s.engineState ≠ .busy ∧ ((∃ v, t = { s with srcAddr := v }) ∨ (∃ v, t = { s with srcLen := v }) ∨
      t = acceptBuildTables (clearResults s) ∨ (∃ req prog, t = acceptHashStream req prog (clearResults s)) ∨
      t = raiseError .illegalCommand (clearResults s))) := by
  cases i with
  | buildTables =>
    simp only [exec, execBuildTables, issueCommand, Host.Outcome.next.injEq] at h
    split at h
    · exact .inr (.inl h.symm)
    · exact .inr (.inr (.inr ⟨by assumption, .inr (.inr (.inl h.symm))⟩))
  | hashStream req prog =>
    simp only [exec, execHashStream, issueCommand, Host.Outcome.next.injEq] at h
    split at h
    · exact .inr (.inl h.symm)
    · exact .inr (.inr (.inr ⟨by assumption, .inr (.inr (.inr (.inl ⟨req, prog, h.symm⟩)))⟩))
  | regRead offset =>
    simp only [exec, execRegRead] at h
    split at h
    · exact .inr (.inr (.inl ⟨_, (Host.Outcome.next.inj h).symm⟩))
    · cases h
  | regWrite offset data =>
    simp only [exec, execRegWrite] at h
    split at h
    · have ht := Host.Outcome.next.inj h
      rcases writeReg_cases data (regAt offset) s with e | e | ⟨hb, e | e | e⟩
      · exact .inl (ht.symm.trans e)
      · exact .inr (.inl (ht.symm.trans e))
      · exact .inr (.inr (.inr ⟨hb, .inl ⟨_, ht.symm.trans e⟩⟩))
      · exact .inr (.inr (.inr ⟨hb, .inr (.inl ⟨_, ht.symm.trans e⟩)⟩))
      · refine .inr (.inr (.inr ⟨hb, ?_⟩))
        rw [ht] at e
        rcases acceptCommand_cases data (clearResults s) with e' | ⟨r, p, e'⟩ | e'
        · exact .inr (.inr (.inl (e.trans e')))
        · exact .inr (.inr (.inr (.inl ⟨r, p, e.trans e'⟩)))
        · exact .inr (.inr (.inr (.inr (e.trans e'))))
    · cases h

/-- No instruction stops the machine with a fault. -/
theorem exec_ne_fault (i : Instr) (s : State) (f : Fault) : exec i s ≠ .fault f := by
  cases i <;> simp only [exec, execBuildTables, execHashStream, execRegRead, execRegWrite, ne_eq, reduceCtorEq,
    not_false_eq_true] <;> split <;> simp

/-! ### The engine's steps -/

/-- What a scan step does (44_dispatcher.md R215, 60_exceptions.md R254). -/
theorem scanStep_cases (s : State) :
    (scanReadable s = true ∧ scanStep s = emitProgress (consumeByte (scanByte s) (afterScanRead s))) ∨
    (scanReadable s = false ∧ scanStep s = raiseError .inputUnavailable s) := by
  by_cases h : scanReadable s = true
  · exact .inl ⟨h, by simp [scanStep, h]⟩
  · exact .inr ⟨by simpa using h, by simp [scanStep, h]⟩

/-- What an engine step that answers a next state has done (00_scope.md R14). -/
theorem engineStep_cases {s t : State} (h : engineStep s = .next t) :
    (s.engineState ≠ .busy ∧ t = s) ∨
    (s.engineState = .busy ∧ s.lOp = opBuildTables ∧ t = buildStep s) ∨
    (s.engineState = .busy ∧ s.lOp = opHashStream ∧ s.count.toNat < s.lLen.toNat ∧ t = scanStep s) ∨
    (s.engineState = .busy ∧ s.lOp = opHashStream ∧ ¬ s.count.toNat < s.lLen.toNat ∧ t = finalizeStep s) := by
  unfold engineStep at h
  split at h
  · exact .inl ⟨by assumption, (Host.Outcome.next.inj h).symm⟩
  · rename_i hb
    have hb' : s.engineState = .busy := by simpa using hb
    split at h
    · exact .inr (.inl ⟨hb', by assumption, (Host.Outcome.next.inj h).symm⟩)
    · split at h
      · have ht := (Host.Outcome.next.inj h).symm
        split at ht
        · exact .inr (.inr (.inl ⟨hb', by assumption, by assumption, ht⟩))
        · exact .inr (.inr (.inr ⟨hb', by assumption, by assumption, ht⟩))
      · cases h

/-! ### Moves and steps -/

/-- The register window by its bounds (10_state.md R20). -/
theorem inWindow_iff (addr : Word) :
    inWindow addr = true ↔ Config.regBase.toNat ≤ addr.toNat ∧ addr.toNat < Config.regBase.toNat + 0x2000 :=
  decide_eq_true_iff

/-- A word that answers a next state ran an instruction: the one it decodes to, or, for an illegal command word, the write
of it to CMD. -/
theorem runTransaction_cases {w : HostWord} {s t : State} (h : runTransaction w s = .next t) :
    ∃ i, exec i s = .next t := by
  unfold runTransaction at h
  split at h
  · exact ⟨_, h⟩
  · rename_i e _
    cases w with
    | cmd v => exact ⟨.regWrite (regOffset .cmd) v, h⟩
    | bus hd d => cases e <;> cases h

/-- No transaction stops the machine with a fault. -/
theorem runTransaction_ne_fault (w : HostWord) (s : State) (f : Fault) : runTransaction w s ≠ .fault f := by
  unfold runTransaction
  split
  · exact exec_ne_fault _ s f
  · rename_i e _
    cases w with
    | cmd v => exact exec_ne_fault (.regWrite (regOffset .cmd) v) s f
    | bus hd d => cases e <;> simp [rejectWord]

/-- What a move that answers a next state has done. -/
theorem runMove_cases {m : Move} {s t : State} (h : runMove m s = .next t) :
    (((∃ w, m = .transaction w) ∨ (∃ a, m = .access a)) ∧ ∃ i, exec i s = .next t) ∨
    (m = .engine ∧ engineStep s = .next t) ∨
    (∃ addr byte, m = .store addr byte ∧ inWindow addr = false ∧ t = hostStore addr byte s) ∨
    (∃ regions, m = .setUnreadable regions ∧ t = { s with unreadable := regions }) := by
  cases m with
  | transaction w => exact .inl ⟨.inl ⟨w, rfl⟩, runTransaction_cases h⟩
  | access a =>
    refine .inl ⟨.inr ⟨a, rfl⟩, ?_⟩
    simp only [runMove, runAccess] at h
    split at h
    · exact runTransaction_cases h
    · cases h
  | engine => exact .inr (.inl ⟨rfl, h⟩)
  | store addr byte =>
    simp only [runMove, runStore] at h
    split at h
    · cases h
    · exact .inr (.inr (.inl ⟨addr, byte, rfl, by simp_all, (Host.Outcome.next.inj h).symm⟩))
  | setUnreadable regions => exact .inr (.inr (.inr ⟨regions, rfl, (Host.Outcome.next.inj h).symm⟩))

/-- What a step that answers a next state has done: the engine's step where the outside world has no move, a reset, or the
next move on the rest of the schedule. -/
theorem step_cases {s t : State} (h : step s = .next t) :
    (s.schedule = [] ∧ engineStep s = .next t) ∨
    (∃ m rest, s.schedule = ⟨true, m⟩ :: rest ∧ t = applyReset { s with schedule := rest }) ∨
    (∃ m rest, s.schedule = ⟨false, m⟩ :: rest ∧ runMove m { s with schedule := rest } = .next t) := by
  unfold step at h
  split at h
  · exact .inl ⟨by assumption, h⟩
  · rename_i slot rest hs
    obtain ⟨r, m⟩ := slot
    cases r with
    | true => exact .inr (.inl ⟨m, rest, hs, (Host.Outcome.next.inj h).symm⟩)
    | false => exact .inr (.inr ⟨m, rest, hs, h⟩)

end Sys2Proof.Machine
end

