-- ==== Sys2Proof/Laws/Scan.lean ====
section
/-! SUPPORT. The accumulators of a running scan as folds over the bytes consumed, and what a host store does to them
(20_memory.md R74). -/

namespace Sys2Proof.Machine

@[simp] theorem acc16After_nil (s : State) : acc16After s [] = crc16Init := by simp [acc16After]

@[simp] theorem acc32After_nil (s : State) : acc32After s [] = crc32Init := by simp [acc32After]

@[simp] theorem acc64After_nil (s : State) : acc64After s [] = crc64Init := by simp [acc64After]

@[simp] theorem accXXAfter_nil (s : State) : accXXAfter s [] = xxhInit := by simp [accXXAfter]

/-- One more byte is one more update (44_dispatcher.md R215). -/
theorem acc16After_append (s : State) (bs : List Byte) (b : Byte) :
    acc16After s (bs ++ [b]) = if s.lTag.getLsbD 0 then crc16Step s.t16 (acc16After s bs) b else acc16After s bs := by
  unfold acc16After
  split <;> simp only [List.foldl_append, List.foldl_cons, List.foldl_nil]

/-- One more byte is one more update (44_dispatcher.md R215). -/
theorem acc32After_append (s : State) (bs : List Byte) (b : Byte) :
    acc32After s (bs ++ [b]) = if s.lTag.getLsbD 1 then crc32Step s.backend (acc32After s bs) b else acc32After s bs := by
  unfold acc32After
  split <;> simp only [List.foldl_append, List.foldl_cons, List.foldl_nil]

/-- One more byte is one more update (44_dispatcher.md R215). -/
theorem acc64After_append (s : State) (bs : List Byte) (b : Byte) :
    acc64After s (bs ++ [b]) = if s.lTag.getLsbD 2 then crc64Step s.t64 (acc64After s bs) b else acc64After s bs := by
  unfold acc64After
  split <;> simp only [List.foldl_append, List.foldl_cons, List.foldl_nil]

/-- One more byte is one more update (44_dispatcher.md R215). -/
theorem accXXAfter_append (s : State) (bs : List Byte) (b : Byte) :
    accXXAfter s (bs ++ [b]) = if s.lTag.getLsbD 3 then xxhMix (accXXAfter s bs) b else accXXAfter s bs := by
  unfold accXXAfter
  split <;> simp only [List.foldl_append, List.foldl_cons, List.foldl_nil]

/-- Either backend's step is the byte function (42_crc32.md R176). -/
theorem crc32Step_eq (backend : Backend) : crc32Step backend = crc32Byte := by
  cases backend <;> rfl

/-- An address lies in the running ByteSource (20_memory.md R61). -/
theorem inRunningSource_iff (s : State) (addr : Word) :
    inRunningSource s addr = true ↔ s.engineState = .busy ∧ s.lOp = opHashStream ∧ s.lAddr.toNat ≤ addr.toNat ∧
      addr.toNat < s.lAddr.toNat + s.lLen.toNat := by
  simp [inRunningSource, and_assoc]

/-- What a host store does: it records the store, and where the running scan has already read the byte as it was stored,
that byte becomes a draw (20_memory.md R74). -/
theorem hostStore_cases (addr : Word) (byte : Byte) (s : State) :
    (readAsStored s addr = false ∧ hostStore addr byte s = recordStore addr byte s) ∨
    (inRunningSource s addr = true ∧ addr ∉ s.mutated ∧ sourceIndex s addr < s.count.toNat ∧
      hostStore addr byte s = redrawByte (sourceIndex s addr) (recordStore addr byte s)) := by
  by_cases h : readAsStored s addr = true
  · refine .inr ?_
    have hs : hostStore addr byte s = redrawByte (sourceIndex s addr) (recordStore addr byte s) := by simp [hostStore, h]
    simp only [readAsStored, Bool.and_eq_true, Bool.not_eq_true', List.contains_eq_mem, decide_eq_true_eq,
      decide_eq_false_iff_not] at h
    exact ⟨h.1.1, h.1.2, h.2, hs⟩
  · exact .inl ⟨by simpa using h, by simp [hostStore, h]⟩

/-- An address stored to is remembered exactly where it lies in the running ByteSource. -/
theorem mem_mutated_hostStore (addr a : Word) (byte : Byte) (s : State) :
    a ∈ (hostStore addr byte s).mutated ↔ a ∈ s.mutated ∨ (inRunningSource s addr = true ∧ a = addr) := by
  rw [hostStore_mutated]
  by_cases h : inRunningSource s addr = true <;> by_cases hm : addr ∈ s.mutated <;> simp [h, hm]
  · rintro rfl
    exact hm
  · exact or_comm

end Sys2Proof.Machine
end

