-- ==== Sys2Proof/Laws/PerInstr.lean ====
section
/-! SUPPORT. A statement made per instruction: the encoder's word lies in the instruction's own row of
spec/opcode_table.json and in no other row of its format. -/

namespace Sys2Proof.Laws.TableRow

/-- The rows of spec/opcode_table.json a word lies in: under a row's mask it is the row's match. Rows are numbered in the
table's order. -/
def rowsOf : HostWord → List Nat
  | .cmd w =>
    (if w &&& 0xFFFFFFFFFFFFFFFF#64 = 0x1#64 then [0] else []) ++ (if w &&& 0xFFFFFFFFFFFFFC0F#64 = 0x2#64 then [1] else [])
  | .bus h _ => (if h &&& 0xE007#16 = 0x0000#16 then [2] else []) ++ (if h &&& 0xE007#16 = 0x8000#16 then [3] else [])

/-- The instruction's own row. -/
def rowOf : Instr → Nat
  | .buildTables => 0
  | .hashStream _ _ => 1
  | .regRead _ => 2
  | .regWrite _ _ => 3

/-- The family's statement about one instruction. -/
def Statement (i : Instr) : Prop := i.wellFormed = true → rowsOf (encode i) = [rowOf i]

theorem header_row : ∀ (dir : Bool) (o : BitVec 13), offsetAligned o = true →
    busHeader dir o &&& 0xE007#16 = if dir then 0x8000#16 else 0x0000#16 := by
  decide +kernel

theorem buildTables : Statement .buildTables := by
  intro _
  decide

theorem hashStream : ∀ (req : BitVec 5) (prog : Bool), Statement (.hashStream req prog) := by
  have h : ∀ (req : BitVec 5) (prog : Bool), rowsOf (encode (.hashStream req prog)) = [1] := by decide +kernel
  intro req prog _
  exact h req prog

theorem regRead (offset : BitVec 13) : Statement (.regRead offset) := by
  intro h
  have hr := header_row false offset h
  simp only [encode, rowsOf, hr]
  rfl

theorem regWrite (offset : BitVec 13) (data : Word) : Statement (.regWrite offset data) := by
  intro h
  have hr := header_row true offset h
  simp only [encode, rowsOf, hr]
  rfl

end Sys2Proof.Laws.TableRow
end

