-- ==== Sys2Proof/Tests/Slice0.lean ====
section
/-! SUPPORT. Tests: well-formedness, decoding of words written out from the spec's encodings, single steps with the values of
95_test_vectors.md, and for every obligation with hypotheses a witness that meets them together. -/

namespace Sys2Proof.Tests

open Sys2Proof Sys2Proof.Machine

-- One test after the other: each thread has a large stack, and many waiting at once exceed the memory limit.
set_option Elab.async false

/-! ### Well-formedness and decoding -/

theorem test_wellFormed_accepts :
    Instr.wellFormed .buildTables = true ∧ Instr.wellFormed (.hashStream 0 false) = true ∧
    Instr.wellFormed (.regRead 0x1FF8) = true ∧ Instr.wellFormed (.regWrite 0x010 0) = true := by decide

/-- 20_memory.md R64: offset 0x004 is not admitted, as a read. -/
theorem test_wellFormed_refuses_unaligned_read : Instr.wellFormed (.regRead 0x004) = false := by decide

/-- 20_memory.md R64: offset 0x004 is not admitted, as a write. -/
theorem test_wellFormed_refuses_unaligned_write : Instr.wellFormed (.regWrite 0x004 0) = false := by decide

/-- 30_encoding.md R93: OP = 0001, REQ = 00000, PROG_EN = 0. -/
theorem test_decode_buildTables : decode (.cmd (0#54 ++ 0b0#1 ++ 0b00000#5 ++ 0b0001#4)) = .ok .buildTables := by decide

/-- 30_encoding.md R94: OP = 0010, REQ = 11010 (CRC32, XXH64, XXH128), PROG_EN = 1. -/
theorem test_decode_hashStream :
    decode (.cmd (0#54 ++ 0b1#1 ++ 0b11010#5 ++ 0b0010#4)) = .ok (.hashStream 0b11010 true) := by decide

/-- 30_encoding.md R97: DIR = 0, 00, OFFSET = 0x808. -/
theorem test_decode_regRead : decode (.bus (0b0#1 ++ 0b00#2 ++ 0b0100000001000#13) 0) = .ok (.regRead 0x808) := by decide

/-- 30_encoding.md R97: DIR = 1, 00, OFFSET = 0x018, DATA = 0x1000. -/
theorem test_decode_regWrite :
    decode (.bus (0b1#1 ++ 0b00#2 ++ 0b0000000011000#13) 0x1000) = .ok (.regWrite 0x018 0x1000) := by decide

/-- 30_encoding.md R101: OP = 0, 3 and 15. -/
theorem test_decode_reserved_opcode :
    decode (.cmd 0x0) = .error .reservedOpcode ∧ decode (.cmd 0x3) = .error .reservedOpcode ∧
    decode (.cmd 0xF) = .error .reservedOpcode := by decide

/-- 30_encoding.md R101: RSV bits 10 and 63. -/
theorem test_decode_reserved_bits :
    decode (.cmd 0x402) = .error .reservedCommandBits ∧
    decode (.cmd 0x8000000000000012) = .error .reservedCommandBits := by decide

/-- 30_encoding.md R93: BUILD_TABLES with REQ = 1, or with PROG_EN = 1. -/
theorem test_decode_build_operands :
    decode (.cmd 0x11) = .error .buildTablesOperands ∧ decode (.cmd 0x201) = .error .buildTablesOperands := by decide

/-- 30_encoding.md R97: header bits [14:13] and OFFSET[2:0] are 0. -/
theorem test_decode_headers :
    decode (.bus 0x2008 0) = .error .reservedHeaderBits ∧ decode (.bus 0xC008 0) = .error .reservedHeaderBits ∧
    decode (.bus 0x0004 0) = .error .unalignedOffset := by decide

/-- The rows of spec/opcode_table.json, by their match words. -/
theorem test_decodeTableWord :
    decodeTableWord 64 0x1 = some .buildTables ∧ decodeTableWord 64 0x2 = some (.hashStream 0 false) ∧
    decodeTableWord 16 0x0000 = some (.regRead 0) ∧ decodeTableWord 16 0x8000 = some (.regWrite 0 0) := by decide

/-! ### The states the tests and witnesses use -/

/-- Host memory of 95_test_vectors.md section 3: "123456789" at 0x1000 and "A" at 0x2000. -/
def hostBytes : List Host.Cell :=
  [(0x1000, 0x31), (0x1001, 0x32), (0x1002, 0x33), (0x1003, 0x34), (0x1004, 0x35), (0x1005, 0x36), (0x1006, 0x37),
   (0x1007, 0x38), (0x1008, 0x39), (0x2000, 0x41)]

/-- The platform of V-ERR: readable exactly from 0x1000 to 0x2FFF. -/
def platform : List Region := [⟨0, 0x1000⟩, ⟨0x3000, addressSpace - 0x3000⟩]

/-- After reset on that platform, with the ByteSource set and the tables built or not. -/
def hostAt (addr len : Word) (tables : Bool) : State :=
  { State.reset with
    mem := hostBytes, unreadable := platform, srcAddr := addr, srcLen := len, tablesValid := tables,
    t16 := if tables then builtT16 else State.reset.t16, t64 := if tables then builtT64 else State.reset.t64 }

/-- A HASH_STREAM of that host, accepted. -/
def scanning (addr len : Word) (req : BitVec 5) (prog : Bool) : State := acceptHashStream req prog (hostAt addr len true)

/-- A BUILD_TABLES, accepted. -/
def building : State := acceptBuildTables (hostAt 0x1000 9 false)

/-- The next state of an outcome, where it has one. -/
def after : Host.Outcome State Fault Refusal → Option State
  | .next t => some t
  | .fault _ => none
  | .refused _ => none

/-- STATUS after an outcome. -/
def statusAfter (o : Host.Outcome State Fault Refusal) : Option Word := (after o).map statusWord

/-- DATA of a read of the header h. -/
def dataOf (h : BitVec 16) (s : State) : Option Word := (after (runTransaction (.bus h 0) s)).map (·.readData)

/-- A slot without reset. -/
def slot (m : Move) : Slot := ⟨false, m⟩

/-! ### Single steps -/

/-- V-BUILD: accepted, then one engine step to DONE. -/
theorem test_build_step :
    statusAfter (exec .buildTables (hostAt 0x1000 9 true)) = some 0x1 ∧ statusAfter (engineStep building) = some 0x102 := by
  decide +kernel

/-- V-BUILD: entries read after the build step. -/
theorem test_build_entries :
    dataOf 0x0C00 (buildStep building) = some 0x9188 ∧ dataOf 0x17F8 (buildStep building) = some 0x9AFCE626CE85B507 := by
  decide +kernel

/-- V-CRC16-1, V-CRC32-1 and V-CRC64-1: the scan step of "A" (ACC32 before the final XOR). -/
theorem test_scan_step_A :
    (scanStep (scanning 0x2000 1 0x1F false)).acc16 = 0xB915#16 ∧
    (scanStep { scanning 0x2000 1 0x1F false with backend := .hw }).acc32 = 0x2C266174#32 ∧
    (scanStep { scanning 0x2000 1 0x1F false with backend := .sw }).acc32 = 0x2C266174#32 ∧
    (scanStep (scanning 0x2000 1 0x1F false)).acc64 = 0x98F5E3FE438617BC#64 := by decide +kernel

/-- Program P4: the finalize step for "A" with {XXH128}; RES_XXH64 is not reported. -/
theorem test_finalize_A :
    let s := finalizeStep (scanStep (scanning 0x2000 1 0x10 true))
    s.resXxh64 = 0 ∧ s.resXxh128Lo = 0x279226C070EADF5D#64 ∧ s.resXxh128Hi = 0xFD23978CA7E69E92#64 ∧
    statusWord s = 0x100102#64 ∧ s.progressEvents = [⟨1, 1⟩] := by decide +kernel

/-- V-ERR: illegal words, checked before everything else. -/
theorem test_err_illegal :
    statusAfter (runTransaction (.cmd 0x402) (hostAt 0x1000 9 true)) = some 0x143 ∧
    statusAfter (runTransaction (.cmd 0x003) (hostAt 0x1000 0 true)) = some 0x143 ∧
    statusAfter (runTransaction (.cmd 0x011) (hostAt 0x1000 9 true)) = some 0x143 := by decide +kernel

/-- V-ERR: the order of the other checks. -/
theorem test_err_order :
    statusAfter (exec (.hashStream 0x01 false) (hostAt 0x9000 0 false)) = some 0x23 ∧
    statusAfter (exec (.hashStream 0x01 false) (hostAt 0x9000 9 false)) = some 0x13 ∧
    statusAfter (exec (.hashStream 0x02 false) (hostAt 0x2FFF 2 true)) = some 0x113 ∧
    statusAfter (exec (.hashStream 0x02 false) (hostAt 0xFFFFFFFFFFFFFFF8 16 true)) = some 0x113 ∧
    statusAfter (exec (.hashStream 0x04 false) (hostAt 0x1000 9 false)) = some 0x33 ∧
    statusAfter (exec (.hashStream 0x1A false) (hostAt 0x1000 9 false)) = some 0x1 := by decide +kernel

/-- V-OVR: a command written while BUSY. -/
theorem test_overrun : statusAfter (runTransaction (.bus 0x8010 0x022) (scanning 0x1000 9 0x1F false)) = some 0x301 := by
  decide +kernel

/-- V-ERR-MID: the byte to be read has become unreadable. -/
theorem test_mid_scan_failure :
    statusAfter (engineStep { scanning 0x1000 9 0x1F true with count := 4, unreadable := [⟨0x1004, 1⟩] }) = some 0x113 := by
  decide +kernel

/-- 20_memory.md R74: a store to a byte already scanned makes it a draw, and takes one; a store outside the ByteSource leaves
the scan as it is. -/
theorem test_store_behind_scan :
    let s : State := scanStep (scanning 0x1000 9 0x0A true)
    (hostStore 0x1000 0x55 s).scanned = [(Config.draw 0).setWidth 8] ∧ (hostStore 0x1000 0x55 s).draws = 1 ∧
    (hostStore 0x1009 0x55 s).scanned = [0x31] ∧ (hostStore 0x1009 0x55 s).mutated = [] := by
  refine ⟨rfl, rfl, ?_, ?_⟩ <;> decide +kernel

/-- V-REG: STATUS is read-only, and a write to reserved 0x1800 has no effect. -/
theorem test_read_only :
    exec (.regWrite 0x008 0xFFFF) (hostAt 0x1000 9 true) = .next (hostAt 0x1000 9 true) ∧
    exec (.regWrite 0x1800 5) (hostAt 0x1000 9 true) = .next (hostAt 0x1000 9 true) := ⟨rfl, rfl⟩

/-- V-REG: table entries, CMD, SRC_ADDR and reserved offsets. -/
theorem test_reads :
    dataOf 0x0808 (hostAt 0x1000 9 true) = some 0x1021 ∧ dataOf 0x0808 (hostAt 0x1000 9 false) = some 0 ∧
    dataOf 0x1400 (hostAt 0x1000 9 true) = some 0xF6FAE5C07D3274CD ∧ dataOf 0x0010 (hostAt 0x1000 9 true) = some 0 ∧
    dataOf 0x0018 (hostAt 0x1000 9 true) = some 0x1000 ∧ dataOf 0x0068 (hostAt 0x1000 9 true) = some 0 := by decide +kernel

/-- The edges of the ranges of the window (10_state.md R20): the last offset before a table, a table's first and last, and the
last offset of all. -/
theorem test_reads_edges :
    dataOf 0x0060 { hostAt 0x1000 9 true with progress := 7 } = some 7 ∧ dataOf 0x07F8 (hostAt 0x1000 9 true) = some 0 ∧
    dataOf 0x0FF8 (hostAt 0x1000 9 true) = some 0x1EF0 ∧ dataOf 0x1008 (hostAt 0x1000 9 true) = some 0x42F0E1EBA9EA3693 ∧
    dataOf 0x17F8 (hostAt 0x1000 9 true) = some 0x9AFCE626CE85B507 ∧ dataOf 0x1800 (hostAt 0x1000 9 true) = some 0 ∧
    dataOf 0x1FF8 (hostAt 0x1000 9 true) = some 0 := by decide +kernel

/-- V-PROG: L = 299 has its points at 2, 298 and 299, not at 1 and 297; L = 12345 at 123 and 12345. -/
theorem test_progress_points :
    progressPoint 2 299 = true ∧ progressPoint 298 299 = true ∧ progressPoint 299 299 = true ∧
    progressPoint 1 299 = false ∧ progressPoint 297 299 = false ∧ progressPoint 123 12345 = true ∧
    progressPoint 12345 12345 = true ∧ progressPoint 12344 12345 = false := by decide +kernel

/-- V-TBL-32: entries of the software backend's own table. -/
theorem test_t32 : t32 0x01 = 0x77073096#32 ∧ t32 0xBE = 0x2CD99E8B#32 ∧ t32 0xFF = 0x2D02EF8D#32 := by decide +kernel

/-- V-CRC32-CHUNK: the eight bytes 00 to 07, one word operation. -/
theorem test_crc32_word : crc32HwWord crc32Init 0 1 2 3 4 5 6 7 = 0x77559760#32 := by decide +kernel

/-- 30_encoding.md R99: lines of the programs of 95_test_vectors.md. -/
theorem test_assembler :
    parseLine "SRC 0x1000, 9" = some (.src 0x1000 9) ∧ parseLine "  RD CRC16_TABLE[0xFF] ; an entry" =
      some (.rd (.crc16Table 0xFF)) ∧ parseLine "CHECK RES_CRC16, 0" = some (.check .resCrc16 0) ∧
    parseLine "WR CMD, 0x3" = some (.wr .cmd 0x3) ∧ parseLine "; a comment" = some .blank := by decide +kernel

/-- 30_encoding.md R99 and P4: the words of the HASH line with {XXH128} and progress, whose braces are given by code. -/
theorem test_assembler_hash :
    parseLine (String.ofList ("HASH ".toList ++ [openBrace] ++ "XXH128".toList ++ [closeBrace] ++ ", PROG".toList)) =
      some (.hash [.xxh128] true) ∧
    expandLine 0 (.hash [.xxh128] true) = [.bus 0x8010 0x302] := by decide +kernel

/-- 30_encoding.md R100: the text of 0x29B1. -/
theorem test_digest_text : hexText 4 0x29B1 = ['2', '9', 'B', '1'] ∧ hexText 8 0xF = "0000000F".toList := by decide +kernel

/-- From reset, the match word of every row of the opcode table runs at the next step. -/
theorem test_table_words_run :
    (after (step (State.reset.withFetchWord 64 0x1))).isSome = true ∧
    (after (step (State.reset.withFetchWord 64 0x2))).isSome = true ∧
    (after (step (State.reset.withFetchWord 16 0x0000))).isSome = true ∧
    (after (step (State.reset.withFetchWord 16 0x8000))).isSome = true := by decide +kernel

/-! ### Witnesses: every obligation with hypotheses, the hypotheses met together -/

theorem witness_DecodeEncodeRoundTrip : Instr.wellFormed (.regWrite 0x1FF8 7) = true := by decide

theorem witness_DecodedWordsReencode :
    decode (.cmd 0x302) = .ok (.hashStream 0x10 true) ∧ decode (.bus 0x9FF8 5) = .ok (.regWrite 0x1FF8 5) ∧
    (0x9FF8#16).getLsbD 15 = true ∧ decode (.bus 0x0008 5) = .ok (.regRead 0x008) := by decide

theorem witness_IllegalCommandWordsExactly :
    Claims.illegalWord 0x3 ∧ Claims.illegalWord 0x402 ∧ Claims.illegalWord 0x201 ∧ ¬ Claims.illegalWord 0x3F2 ∧
    ¬ Claims.illegalWord 0x1 := by unfold Claims.illegalWord; decide

theorem witness_BuildTablesHasOneWord : (0x11#64).extractLsb' 0 4 = 1#4 ∧ 0x11#64 ≠ 1 := by decide

theorem witness_StepRunsDecodedInstruction :
    ∃ (s : State) (rest : List Slot), s.schedule = ⟨false, .transaction (.cmd 0x1F2)⟩ :: rest ∧
      decode (.cmd 0x1F2) = .ok (.hashStream 0x1F false) :=
  ⟨{ hostAt 0x1000 9 true with schedule := [slot (.transaction (.cmd 0x1F2))] }, [], rfl, by decide⟩

theorem witness_TableWordRunsNext : decodeTableWord 64 0x1F2 = some (.hashStream 0x1F false) := by decide

theorem witness_CommandWordIsWriteToCmd : decode (.cmd 0x22) = .ok (.hashStream 0x02 false) := by decide

theorem witness_EngineWaitsUnlessBusy :
    (hostAt 0x1000 9 true).engineState ≠ .busy ∧ (hostAt 0x1000 9 true).schedule = [] := by decide

theorem witness_ResetTakesEffectInsteadOfMove :
    ∃ (s : State) (m : Move) (rest : List Slot), s.schedule = ⟨true, m⟩ :: rest ∧ s.engineState = .busy :=
  ⟨{ scanning 0x1000 9 0x1F false with schedule := [⟨true, .engine⟩] }, .engine, [], rfl, by decide +kernel⟩

theorem witness_EveryWellFormedInstructionCompletes :
    Instr.wellFormed (.regRead 0x1FF8) = true ∧ Instr.wellFormed (.regRead 0x1FFC) = false := by decide

/-- REG_BASE is 8 KiB aligned (00_scope.md R6). -/
theorem regBase_page : ∃ p : Nat, p < 2 ^ 51 ∧ Config.regBase.toNat = p * 0x2000 := by
  refine ⟨Config.regBasePage.toNat, Config.regBasePage.isLt, ?_⟩
  unfold Config.regBase
  generalize Config.regBasePage = q
  have h : (q ++ 0#13 : BitVec 64).toNat = q.toNat <<< 13 ||| (0#13).toNat := BitVec.toNat_append _ _
  rw [h, BitVec.toNat_ofNat, Nat.zero_mod, Nat.or_zero, Nat.shiftLeft_eq]

/-- Accesses for each clause: a narrow one, one below or above the window, a misaligned one, and the window's first and last
registers; whatever REG_BASE is. -/
theorem witness_WindowAdmitsAlignedWordAccesses :
    (⟨false, Config.regBase, 4, 0⟩ : Access).bytes ≠ 8 ∧
    (∃ a : Word, a.toNat < Config.regBase.toNat ∨ Config.regBase.toNat + 0x2000 ≤ a.toNat) ∧
    (∃ a : Word, Config.regBase.toNat ≤ a.toNat ∧ a.toNat < Config.regBase.toNat + 0x2000 ∧
      (a.toNat - Config.regBase.toNat) % 8 ≠ 0) ∧
    (∃ a : Word, a.toNat = Config.regBase.toNat) ∧ (∃ a : Word, a.toNat = Config.regBase.toNat + 0x1FF8) := by
  obtain ⟨p, hp, h⟩ := regBase_page
  generalize Config.regBase = r at h ⊢
  refine ⟨by simp, ?_, ⟨BitVec.ofNat 64 (r.toNat + 4), ?_, ?_, ?_⟩, ⟨r, rfl⟩, ⟨BitVec.ofNat 64 (r.toNat + 0x1FF8), ?_⟩⟩
  · by_cases h0 : p = 0
    · exact ⟨0x2000, .inr (by rw [h, h0]; exact Nat.le_refl _)⟩
    · exact ⟨0, .inl (by rw [h]; show 0 < p * 0x2000; omega)⟩
  all_goals (simp only [BitVec.toNat_ofNat]; omega)

theorem witness_UnadmittedHeadersRefused :
    (0x2000#16).extractLsb' 13 2 ≠ 0#2 ∧ ((0x1FFF#16).extractLsb' 13 2 = 0#2 ∧ (0x1FFF#16).extractLsb' 0 3 ≠ 0#3) ∧
    ((0x9FF8#16).extractLsb' 13 2 = 0#2 ∧ (0x9FF8#16).extractLsb' 0 3 = 0#3) := by decide

theorem witness_RegReadReturnsEveryRegister : (0x1FF8#13).toNat % 8 = 0 ∧ (0x1FFF#13).toNat % 8 ≠ 0 := by decide

/-- The host at rest: a step changes nothing. -/
theorem idle_step (addr len : Word) (tables : Bool) : step (hostAt addr len tables) = .next (hostAt addr len tables) :=
  show engineStep (hostAt addr len tables) = _ from if_pos (by simp [hostAt, State.reset])

theorem witness_CapsIsConstant : (hostAt 0x1000 9 true).backend = selectBackend Config.hasHwCrc32 ∧
    step (hostAt 0x1000 9 true) = .next (hostAt 0x1000 9 true) := ⟨rfl, idle_step _ _ _⟩

theorem witness_RegWriteEffects :
    (0x011#13).toNat % 8 ≠ 0 ∧ (scanning 0x1000 9 0x1F false).engineState = .busy ∧
    (hostAt 0x1000 9 true).engineState ≠ .busy ∧
    ((0x1FF8#13).toNat % 8 = 0 ∧ 0x1FF8#13 ≠ 0x010 ∧ 0x1FF8#13 ≠ 0x018 ∧ 0x1FF8#13 ≠ 0x020) := by decide +kernel

theorem witness_SourceRegistersHoldTheByteSource :
    (hostAt 0x1000 9 true).engineState ≠ .busy ∧ (scanning 0x1000 9 0x1F false).engineState = .busy ∧
    (step (hostAt 0x1000 9 true) = .next (hostAt 0x1000 9 true) ∧ resetNext (hostAt 0x1000 9 true) = false ∧
      hostAccessNext (hostAt 0x1000 9 true) = false) ∧
    (∃ t, exec (.hashStream 0x02 true) (hostAt 0x1000 9 true) = .next t ∧ t.engineState = .busy) :=
  ⟨by decide, by decide +kernel, ⟨idle_step _ _ _, rfl, rfl⟩, _, rfl, by decide +kernel⟩

theorem witness_OverrunIsSetAndSticky :
    (scanning 0x1000 9 0x1F false).engineState = .busy ∧
    (∃ t, step (setOverrun (scanning 0x1000 9 0x1F false)) = .next t ∧
      (setOverrun (scanning 0x1000 9 0x1F false)).overrun = true) ∧
    (∃ t, step { setOverrun (hostAt 0x1000 9 true) with schedule := [⟨true, .engine⟩] } = .next t ∧
      (setOverrun (hostAt 0x1000 9 true)).overrun = true) :=
  ⟨by decide +kernel, ⟨_, rfl, rfl⟩, ⟨_, rfl, rfl⟩⟩

theorem witness_IllegalCommandWriteRaises :
    (hostAt 0x1000 9 true).engineState ≠ .busy ∧ Claims.illegalWord 0x8000000000000012 := by
  unfold Claims.illegalWord
  decide

theorem witness_BuildTablesAccepted : (hostAt 0x1000 9 true).engineState ≠ .busy := by decide

theorem witness_BuildStepWritesWholeTables :
    (building.engineState = .busy ∧ building.lOp = 1#4) ∧ building.tablesValid = false := by decide

theorem witness_BuildTablesRunsToDone :
    (hostAt 0x1000 9 true).engineState ≠ .busy ∧ (hostAt 0x1000 9 true).schedule = [] := by decide

/-- A HASH_STREAM's own step, a host access and a host store while BUILD_TABLES runs, an acceptance, and a reset. -/
theorem witness_TablesWrittenOnlyByBuild :
    (∃ t, step (scanning 0x1000 9 0x1F false) = .next t ∧ resetNext (scanning 0x1000 9 0x1F false) = false ∧
      ¬ (engineNext (scanning 0x1000 9 0x1F false) = true ∧ (scanning 0x1000 9 0x1F false).engineState = .busy ∧
        (scanning 0x1000 9 0x1F false).lOp = 1#4)) ∧
    (∃ s t, step s = .next t ∧ resetNext s = false ∧ engineNext s = false ∧ s.engineState = .busy ∧ s.lOp = 1#4 ∧
      t.tablesValid = s.tablesValid) ∧
    (∃ s t, step s = .next t ∧ hostAccessNext s = true ∧ s.engineState ≠ .busy ∧ t.engineState = .busy ∧ t.lOp = 1#4 ∧
      s.tablesValid = true ∧ t.tablesValid = false) ∧
    (∃ s t, step s = .next t ∧ resetNext s = true) :=
  ⟨⟨_, rfl, rfl, by decide +kernel⟩,
    ⟨{ building with schedule := [slot (.transaction (.cmd 0x1))] }, _, rfl, rfl, rfl, by decide, by decide, rfl⟩,
    ⟨{ hostAt 0x1000 9 true with schedule := [slot (.transaction (.cmd 0x1))] }, _, rfl, rfl, by decide, rfl, rfl, rfl, rfl⟩,
    { hostAt 0x1000 9 true with schedule := [⟨true, .engine⟩] }, _, rfl, rfl⟩

/-- The bytes of a ByteSource inside V-ERR's platform can be read. -/
theorem platform_readable (a n : Nat) (h1 : 0x1000 ≤ a) (h2 : a + n ≤ 0x3000) : everyByteReadable platform a n := by
  intro x hx hy r hr
  simp only [platform, List.mem_cons, List.not_mem_nil, or_false] at hr
  rcases hr with rfl | rfl <;> simp only [addressSpace] <;> omega

theorem in_bounds (t : Bool) : Claims.sourceInBounds (hostAt 0x1000 9 t) :=
  ⟨platform_readable 0x1000 9 (by decide) (by decide), by simp [hostAt]⟩

theorem witness_HashStreamAccepted :
    (hostAt 0x1000 9 true).engineState ≠ .busy ∧ (hostAt 0x1000 9 true).srcLen ≠ 0 ∧
    Claims.sourceInBounds (hostAt 0x1000 9 true) ∧
    ((0x1F#5).getLsbD 0 = true ∨ (0x1F#5).getLsbD 2 = true → (hostAt 0x1000 9 true).tablesValid = true) :=
  ⟨by decide, by decide, in_bounds true, fun _ => rfl⟩

/-- For each clause a state and a word. -/
theorem witness_AcceptanceChecksInOrder :
    (scanning 0x1000 9 0x1F false).engineState = .busy ∧ (hostAt 0x1000 9 true).engineState ≠ .busy ∧
    Claims.illegalWord 0x402 ∧ (¬ Claims.illegalWord 0x1 ∧ Claims.opNumber 0x1 = 1) ∧
    (¬ Claims.illegalWord 0x3F2 ∧ Claims.opNumber 0x3F2 = 2) ∧
    (hostAt 0x1000 0 true).srcLen = 0 ∧
    ((hostAt 0xFFFFFFFFFFFFFFF8 16 true).srcLen ≠ 0 ∧ ¬ Claims.sourceInBounds (hostAt 0xFFFFFFFFFFFFFFF8 16 true)) ∧
    ((hostAt 0x1000 9 false).srcLen ≠ 0 ∧ Claims.sourceInBounds (hostAt 0x1000 9 false) ∧
      (0x3F2#64).getLsbD 4 = true ∧ (hostAt 0x1000 9 false).tablesValid = false) ∧
    (Claims.sourceInBounds (hostAt 0x1000 9 true) ∧
      ¬ (((0x3F2#64).getLsbD 4 = true ∨ (0x3F2#64).getLsbD 6 = true) ∧ (hostAt 0x1000 9 true).tablesValid = false)) := by
  refine ⟨by decide +kernel, by decide, by unfold Claims.illegalWord; decide, by unfold Claims.illegalWord; decide,
    by unfold Claims.illegalWord; decide, by decide, ⟨by decide, fun h => absurd h.2 (by decide)⟩,
    ⟨by decide, in_bounds false, by decide, by decide⟩, in_bounds true, by decide⟩

theorem witness_EmptySourceWhateverRequest :
    (hostAt 0x9000 0 false).engineState ≠ .busy ∧ (hostAt 0x9000 0 false).srcLen = 0 := by decide

/-- The last byte of a scan, once readable and once not. -/
theorem witness_ScanStepEffect :
    let s : State := { scanning 0x1000 9 0x1F true with count := 8 }
    let u : State := { s with unreadable := [⟨0x1008, 1⟩] }
    (s.engineState = .busy ∧ s.lOp = 2#4 ∧ s.count.toNat < s.lLen.toNat ∧
      ¬ ∃ r ∈ s.unreadable, r.base ≤ (s.lAddr + s.count).toNat ∧ (s.lAddr + s.count).toNat < r.base + r.size) ∧
    (u.engineState = .busy ∧ u.lOp = 2#4 ∧ u.count.toNat < u.lLen.toNat ∧
      ∃ r ∈ u.unreadable, r.base ≤ (u.lAddr + u.count).toNat ∧ (u.lAddr + u.count).toNat < r.base + r.size) := by
  decide +kernel

theorem witness_MidScanFailureEndsCommand :
    let s : State := { scanning 0x1000 9 0x1F true with count := 4, unreadable := [⟨0x1004, 1⟩] }
    s.engineState = .busy ∧ s.lOp = 2#4 ∧ s.count.toNat < s.lLen.toNat ∧ (⟨0x1004, 1⟩ : Region) ∈ s.unreadable ∧
      0x1004 ≤ (s.lAddr + s.count).toNat ∧ (s.lAddr + s.count).toNat < 0x1004 + 1 := by
  decide +kernel

theorem witness_FinalizeStepEffect :
    let s : State := { scanning 0x1000 9 0x1F true with count := 9 }
    s.engineState = .busy ∧ s.lOp = 2#4 ∧ s.count = s.lLen := by
  decide +kernel

theorem witness_ProgressPointsAtMost200 : 1 ≤ 199 ∧ ((List.range 200).filter (fun n => progressPoint n 199)).length = 199 := by
  decide +kernel

theorem witness_HashStreamRunsToDigests :
    let s := hostAt 0x1000 9 true
    s.engineState ≠ .busy ∧ s.schedule = [] ∧ s.srcLen ≠ 0 ∧ Claims.sourceInBounds s ∧
      ((0x1F#5).getLsbD 0 = true ∨ (0x1F#5).getLsbD 2 = true →
        s.tablesValid = true ∧ s.t16 = builtT16 ∧ s.t64 = builtT64) :=
  ⟨by decide, by decide, by decide, in_bounds true, fun _ => ⟨rfl, rfl, rfl⟩⟩

theorem witness_HashStreamEndsAfterLenPlusOneSteps :
    let s := hostAt 0x1000 9 true
    s.engineState ≠ .busy ∧ s.schedule = [] ∧ s.srcLen ≠ 0 ∧ Claims.sourceInBounds s ∧
      ((0x04#5).getLsbD 0 = true ∨ (0x04#5).getLsbD 2 = true → s.tablesValid = true) ∧ 9 ≤ s.srcLen.toNat :=
  ⟨by decide, by decide, by decide, in_bounds true, fun _ => rfl, by decide⟩

theorem witness_ProgressEventsOfRun :
    let s := hostAt 0x1000 9 true
    s.engineState ≠ .busy ∧ s.schedule = [] ∧ s.srcLen ≠ 0 ∧ Claims.sourceInBounds s ∧
      ((0x02#5).getLsbD 0 = true ∨ (0x02#5).getLsbD 2 = true → s.tablesValid = true) :=
  ⟨by decide, by decide, by decide, in_bounds true, fun _ => rfl⟩

/-- The same byte "1" hashed twice, the second time at another address and with progress events. -/
theorem witness_HashStreamIsIdempotent :
    let s1 := hostAt 0x1000 1 true
    let s2 : State := { hostAt 0x1100 1 true with mem := [(0x1100, 0x31)] }
    s1.engineState ≠ .busy ∧ s2.engineState ≠ .busy ∧ s1.schedule = [] ∧ s2.schedule = [] ∧ s1.srcLen = s2.srcLen ∧
      sourceBytes s1.mem s1.srcAddr.toNat s1.srcLen.toNat = sourceBytes s2.mem s2.srcAddr.toNat s2.srcLen.toNat ∧
      s1.t16 = s2.t16 ∧ s1.t64 = s2.t64 ∧
      ∃ t1 t2 u1 u2, exec (.hashStream 0x1F false) s1 = .next t1 ∧ exec (.hashStream 0x1F true) s2 = .next t2 ∧
        t1.engineState = .busy ∧ t2.engineState = .busy ∧ Claims.runSteps 2 t1 = .next u1 ∧
        Claims.runSteps 2 t2 = .next u2 :=
  ⟨by decide, by decide, rfl, rfl, rfl, by decide, rfl, rfl, _, _, _, _, rfl, rfl, by decide +kernel, by decide +kernel,
    rfl, rfl⟩

theorem witness_Xxh64SameAloneAndWithXxh128 :
    let s := hostAt 0x2000 1 false
    s.engineState ≠ .busy ∧ s.schedule = [] ∧
      (∃ t1 t2 u1 u2, exec (.hashStream 0x08 false) s = .next t1 ∧ exec (.hashStream 0x18 true) s = .next t2 ∧
        t1.engineState = .busy ∧ t2.engineState = .busy ∧ Claims.runSteps 2 t1 = .next u1 ∧
        Claims.runSteps 2 t2 = .next u2) ∧
      (0x08#5).getLsbD 3 = true ∧ (0x18#5).getLsbD 4 = true :=
  ⟨by decide, rfl, ⟨_, _, _, _, rfl, rfl, by decide +kernel, by decide +kernel, rfl, rfl⟩, by decide, by decide⟩

theorem witness_BackendNeverChangesOutput : ∃ t, engineStep (scanning 0x1000 9 0x1F true) = .next t := ⟨_, rfl⟩

theorem witness_ProgressNeverChangesResults : ∃ t, engineStep { scanning 0x1000 9 0x1F true with count := 9 } = .next t :=
  ⟨_, rfl⟩

theorem witness_EngineReadsOnlyLatchedOperands : ∃ t, engineStep building = .next t := ⟨_, rfl⟩

/-- The invariant holds while a scan of "A" runs. -/
theorem scanning_inv : (scanning 0x2000 1 0x1F true).Inv where
  memWf := by decide +kernel
  errNone := by decide +kernel
  resValidDone := by decide +kernel
  resultsClear := by decide +kernel
  resultsValid := by decide +kernel
  busyOp := by decide +kernel
  buildClear := by decide +kernel
  hashRunning := by decide +kernel
  scanFold := by decide +kernel
  scanBytes := fun _ _ i hi => absurd hi (Nat.not_lt_zero i)
  tablesBuilt := fun _ => ⟨rfl, rfl⟩
  backendFixed := rfl

theorem witness_StepKeepsInv :
    ∃ t, (scanning 0x2000 1 0x1F true).Inv ∧ step (scanning 0x2000 1 0x1F true) = .next t := ⟨_, scanning_inv, rfl⟩

theorem witness_InvRulesOutFault : ∃ s : State, s.Inv := ⟨_, scanning_inv⟩

theorem witness_StateTransitionsAllowed : ∃ t, step { scanning 0x2000 1 0x1F true with count := 1 } = .next t := ⟨_, rfl⟩

theorem witness_HostMemoryChangesOnlyByStores :
    ∃ t, step (scanning 0x2000 1 0x1F true) = .next t ∧ storeNext (scanning 0x2000 1 0x1F true) = false := ⟨_, rfl, rfl⟩

/-- Addresses inside and outside the register window, whatever REG_BASE is. -/
theorem window_both_sides :
    (∃ a : Word, Config.regBase.toNat ≤ a.toNat ∧ a.toNat < Config.regBase.toNat + 0x2000) ∧
    (∃ a : Word, ¬ (Config.regBase.toNat ≤ a.toNat ∧ a.toNat < Config.regBase.toNat + 0x2000)) := by
  refine ⟨⟨Config.regBase, Nat.le_refl _, by omega⟩, ?_⟩
  by_cases h : Config.regBase.toNat = 0
  · exact ⟨0x2000, by rw [h]; decide⟩
  · exact ⟨0, by simp; omega⟩

theorem witness_HostStoreWritesOneByte (addr : Word) :
    let s : State := { hostAt 0x1000 9 true with schedule := [slot (.store addr 0x55)] }
    s.schedule = ⟨false, .store addr 0x55⟩ :: [] ∧ Memory.wf s.mem := ⟨rfl, (by decide +kernel : Memory.wf hostBytes)⟩

/-- A ByteSource of two bytes at address 0x1000, or, where the register window covers that, at 0x4000. -/
theorem witness_StoreDuringScanMakesByteADraw :
    ∃ (s : State) (addr n : Word), s.engineState = .busy ∧ s.lOp = 2#4 ∧ s.lAddr.toNat ≤ addr.toNat ∧
      addr.toNat < s.lAddr.toNat + s.lLen.toNat ∧
      ¬ (Config.regBase.toNat ≤ addr.toNat ∧ addr.toNat < Config.regBase.toNat + 0x2000) ∧ s.lAddr + n = addr := by
  by_cases h : 0x1001 < Config.regBase.toNat ∨ Config.regBase.toNat + 0x2000 ≤ 0x1001
  · exact ⟨scanning 0x1000 2 0x1F false, 0x1001, 1, by decide +kernel, by decide +kernel, by decide +kernel,
      by decide +kernel, by simp; omega, by decide +kernel⟩
  · exact ⟨{ scanning 0x1000 2 0x1F false with lAddr := 0x4000 }, 0x4001, 1, by decide +kernel, by decide +kernel,
      by decide +kernel, by decide +kernel, by simp; omega, by decide +kernel⟩

/-- A ByteSource of two bytes with one of them read, as above: a store to the first, the same once it is remembered, and one
to the second. -/
theorem witness_StoreBehindScanMakesByteADraw :
    ∃ (s u : State) (a b : Word), u = { s with mutated := [a] } ∧ s.engineState = .busy ∧ s.lOp = 2#4 ∧
      s.lAddr.toNat ≤ a.toNat ∧ b.toNat < s.lAddr.toNat + s.lLen.toNat ∧ a.toNat + 1 = b.toNat ∧
      ¬ (Config.regBase.toNat ≤ a.toNat ∧ a.toNat < Config.regBase.toNat + 0x2000) ∧
      ¬ (Config.regBase.toNat ≤ b.toNat ∧ b.toNat < Config.regBase.toNat + 0x2000) ∧
      a.toNat - s.lAddr.toNat < s.count.toNat ∧ a ∉ s.mutated ∧ s.count.toNat ≤ b.toNat - s.lAddr.toNat ∧
      b ∉ s.mutated ∧ a ∈ u.mutated := by
  by_cases h : 0x1001 < Config.regBase.toNat ∨ Config.regBase.toNat + 0x2000 ≤ 0x1000
  · exact ⟨{ scanning 0x1000 2 0x1F false with count := 1, scanned := [0x31] }, _, 0x1000, 0x1001, rfl, by decide +kernel,
      by decide +kernel, by decide +kernel, by decide +kernel, by decide, by simp; omega, by simp; omega, by decide +kernel,
      by decide +kernel, by decide +kernel, by decide +kernel, by simp⟩
  · exact ⟨{ scanning 0x1000 2 0x1F false with lAddr := 0x4000, count := 1, scanned := [0x31] }, _, 0x4000, 0x4001, rfl,
      by decide +kernel, by decide +kernel, by decide +kernel, by decide +kernel, by decide, by simp; omega, by simp; omega,
      by decide +kernel, by decide +kernel, by decide +kernel, by decide +kernel, by simp⟩

theorem witness_DigestsAreOfTheBytesRead :
    ∃ s : State, s.Inv ∧ s.engineState = .busy ∧ s.lOp = 2#4 ∧ s.count = s.lLen :=
  ⟨{ scanning 0x2000 1 0x08 false with
      accXX := accXXAfter (scanning 0x2000 1 0x08 false) [0x41], count := 1, scanned := [0x41] }, {
    memWf := by decide +kernel
    errNone := by decide +kernel
    resValidDone := by decide +kernel
    resultsClear := by decide +kernel
    resultsValid := by decide +kernel
    busyOp := by decide +kernel
    buildClear := by decide +kernel
    hashRunning := by decide +kernel
    scanFold := by decide +kernel
    scanBytes := by
      intro _ _ i hi _
      obtain rfl : i = 0 := Nat.lt_one_iff.1 hi
      decide +kernel
    tablesBuilt := fun _ => ⟨rfl, rfl⟩
    backendFixed := rfl }, by decide +kernel, by decide +kernel, by decide +kernel⟩

theorem witness_DigestTextRendersRegisters : '0' ∈ digestText State.reset .crc16 := by decide +kernel

theorem witness_AssemblerLinesExpand :
    Reg.crc64Table 0xFF ≠ .reserved ∧ Reg.caps ≠ .reserved ∧
    HostWord.bus 0x8020 9 ∈ expandLine 0 (.src 0x1000 9) ∧ HostWord.bus 0x0008 0 ∈ expandLine 2 .wait := by decide +kernel

theorem witness_RequestMaskIsTheSet : ∀ k : Fin 5, k.val < 5 ∧ (requestMask [.xxh128, .crc16]).getLsbD 4 = true ∧
    (requestMask [.xxh128, .crc16]).getLsbD 3 = false := by decide +kernel

end Sys2Proof.Tests
end

/-! PROOFS. SRC_ADDR, SRC_LEN, OVERRUN and the values after reset (10_state.md R26, R27, R38, R41). -/

namespace Sys2Proof.Machine

/-! ### Register accesses by register -/

@[simp] theorem regAt_regOffset (r : Reg) : regAt (regOffset r) = r := by
  cases r with
  | crc16Table i => exact (by decide +kernel : ∀ i : BitVec 8, regAt (regOffset (.crc16Table i)) = .crc16Table i) i
  | crc64Table i => exact (by decide +kernel : ∀ i : BitVec 8, regAt (regOffset (.crc64Table i)) = .crc64Table i) i
  | _ => rfl

@[simp] theorem offsetAligned_regOffset (r : Reg) : offsetAligned (regOffset r) = true := by
  cases r with
  | crc16Table i => exact (by decide +kernel : ∀ i : BitVec 8, offsetAligned (regOffset (.crc16Table i)) = true) i
  | crc64Table i => exact (by decide +kernel : ∀ i : BitVec 8, offsetAligned (regOffset (.crc64Table i)) = true) i
  | _ => rfl

theorem exec_regRead_regOffset (r : Reg) (s : State) :
    exec (.regRead (regOffset r)) s = .next { s with readData := readReg s r } := by
  simp [exec, execRegRead]

theorem exec_regWrite_regOffset (r : Reg) (v : Word) (s : State) :
    exec (.regWrite (regOffset r) v) s = .next (writeReg v r s) := by
  simp [exec, execRegWrite]

/-- The registers whose write is ignored while BUSY (10_state.md R38). -/
theorem exec_regWrite_busy {s : State} (h : s.engineState = .busy) (r : Reg)
    (hr : r = .cmd ∨ r = .srcAddr ∨ r = .srcLen) (v : Word) :
    exec (.regWrite (regOffset r) v) s = .next (setOverrun s) := by
  rw [exec_regWrite_regOffset]
  rcases hr with rfl | rfl | rfl
  · exact congrArg _ (issueCommand_busy h _)
  · exact congrArg _ (if_pos h)
  · exact congrArg _ (if_pos h)

theorem exec_regWrite_srcAddr {s : State} (h : s.engineState ≠ .busy) (v : Word) :
    exec (.regWrite (regOffset .srcAddr) v) s = .next { s with srcAddr := v } := by
  rw [exec_regWrite_regOffset]
  exact congrArg _ (if_neg h)

theorem exec_regWrite_srcLen {s : State} (h : s.engineState ≠ .busy) (v : Word) :
    exec (.regWrite (regOffset .srcLen) v) s = .next { s with srcLen := v } := by
  rw [exec_regWrite_regOffset]
  exact congrArg _ (if_neg h)

/-! ### Fields that the engine's own steps leave alone -/

/-- A field that each part of a scan step leaves alone is unchanged by the scan step. -/
theorem scanStep_field {α : Type} (f : State → α) (hread : ∀ s, f (afterScanRead s) = f s)
    (hconsume : ∀ b s, f (consumeByte b s) = f s) (hemit : ∀ s, f (emitProgress s) = f s)
    (hraise : ∀ c s, f (raiseError c s) = f s) (s : State) : f (scanStep s) = f s := by
  rcases scanStep_cases s with ⟨-, e⟩ | ⟨-, e⟩
  · rw [e, hemit, hconsume, hread]
  · rw [e, hraise]

@[simp] theorem scanStep_srcAddr (s : State) : (scanStep s).srcAddr = s.srcAddr :=
  scanStep_field State.srcAddr (fun _ => rfl) (fun _ _ => rfl) (fun _ => rfl) (fun _ _ => rfl) s

@[simp] theorem scanStep_srcLen (s : State) : (scanStep s).srcLen = s.srcLen :=
  scanStep_field State.srcLen (fun _ => rfl) (fun _ _ => rfl) (fun _ => rfl) (fun _ _ => rfl) s

@[simp] theorem scanStep_overrun (s : State) : (scanStep s).overrun = s.overrun :=
  scanStep_field State.overrun (fun _ => rfl) (fun _ _ => rfl) (fun _ => rfl) (fun _ _ => rfl) s

/-- A field that the build step, the scan step and the finalize step leave alone is unchanged by an engine step. -/
theorem engineStep_field {α : Type} (f : State → α) (hbuild : ∀ s, f (buildStep s) = f s)
    (hscan : ∀ s, f (scanStep s) = f s) (hfinalize : ∀ s, f (finalizeStep s) = f s) {s t : State}
    (h : engineStep s = .next t) : f t = f s := by
  rcases engineStep_cases h with ⟨-, rfl⟩ | ⟨-, -, rfl⟩ | ⟨-, -, -, rfl⟩ | ⟨-, -, -, rfl⟩
  · rfl
  · exact hbuild s
  · exact hscan s
  · exact hfinalize s

theorem engineStep_srcAddr {s t : State} (h : engineStep s = .next t) : t.srcAddr = s.srcAddr :=
  engineStep_field State.srcAddr buildStep_srcAddr scanStep_srcAddr finalizeStep_srcAddr h

theorem engineStep_srcLen {s t : State} (h : engineStep s = .next t) : t.srcLen = s.srcLen :=
  engineStep_field State.srcLen buildStep_srcLen scanStep_srcLen finalizeStep_srcLen h

theorem engineStep_overrun {s t : State} (h : engineStep s = .next t) : t.overrun = s.overrun :=
  engineStep_field State.overrun buildStep_overrun scanStep_overrun finalizeStep_overrun h

/-! ### SRC_ADDR and SRC_LEN (10_state.md R26, R27) -/

/-- A move that is no host access leaves SRC_ADDR and SRC_LEN alone. -/
theorem runMove_source {m : Move} {s t : State} (h : runMove m s = .next t) (hw : ∀ w, m ≠ .transaction w)
    (ha : ∀ a, m ≠ .access a) : t.srcAddr = s.srcAddr ∧ t.srcLen = s.srcLen := by
  rcases runMove_cases h with ⟨⟨w, e⟩ | ⟨a, e⟩, -⟩ | ⟨-, he⟩ | ⟨addr, byte, -, -, rfl⟩ | ⟨regions, -, rfl⟩
  · exact absurd e (hw w)
  · exact absurd e (ha a)
  · exact ⟨engineStep_srcAddr he, engineStep_srcLen he⟩
  · exact ⟨hostStore_srcAddr addr byte s, hostStore_srcLen addr byte s⟩
  · exact ⟨rfl, rfl⟩

/-- A step that is neither a reset nor a host access leaves SRC_ADDR and SRC_LEN alone. -/
theorem step_source {s t : State} (h : step s = .next t) (hr : resetNext s = false) (ha : hostAccessNext s = false) :
    t.srcAddr = s.srcAddr ∧ t.srcLen = s.srcLen := by
  rcases step_cases h with ⟨-, he⟩ | ⟨m, rest, hs, -⟩ | ⟨m, rest, hs, hm⟩
  · exact ⟨engineStep_srcAddr he, engineStep_srcLen he⟩
  · simp [resetNext, hs] at hr
  · have hw : ∀ w, m ≠ .transaction w := by
      rintro w rfl
      simp [hostAccessNext, hs] at ha
    have hacc : ∀ a, m ≠ .access a := by
      rintro a rfl
      simp [hostAccessNext, hs] at ha
    have hsrc := runMove_source hm hw hacc
    exact hsrc

/-- A HASH_STREAM that is accepted latches the ByteSource (10_state.md R33). -/
theorem acceptHashStream_latches {req : BitVec 5} {prog : Bool} {s : State}
    (h : (acceptHashStream req prog s).engineState = .busy) :
    (acceptHashStream req prog s).lAddr = s.srcAddr ∧ (acceptHashStream req prog s).lLen = s.srcLen := by
  rcases acceptHashStream_cases req prog s with ⟨-, e⟩ | ⟨code, -, -, e⟩
  · rw [e]
    exact ⟨beginHashStream_lAddr req prog s, beginHashStream_lLen req prog s⟩
  · simp [e] at h

/-- Settles O19, from the rule of each register access, the frame of a step and the latching of an acceptance. -/
theorem sourceRegistersHoldTheByteSource : Obligations.SourceRegistersHoldTheByteSource := by
  refine ⟨fun s v h => ⟨?_, ?_, ?_, ?_⟩, fun s v h => ⟨?_, ?_⟩, ⟨rfl, rfl⟩, fun s t => step_source, ?_⟩
  · exact exec_regWrite_srcAddr h v
  · exact exec_regRead_regOffset .srcAddr _
  · exact exec_regWrite_srcLen h v
  · exact exec_regRead_regOffset .srcLen _
  · exact exec_regWrite_busy h .srcAddr (by simp) v
  · exact exec_regWrite_busy h .srcLen (by simp) v
  · intro s t req prog h ht hb
    have e : acceptHashStream req prog (clearResults s) = t :=
      (issueCommand_accept h _).symm.trans (Host.Outcome.next.inj ht)
    subst e
    exact acceptHashStream_latches hb

/-! ### OVERRUN (10_state.md R38) -/

@[simp] theorem acceptHashStream_overrun (req : BitVec 5) (prog : Bool) (s : State) :
    (acceptHashStream req prog s).overrun = s.overrun := by
  rcases acceptHashStream_cases req prog s with ⟨-, e⟩ | ⟨code, -, -, e⟩ <;> simp [e]

/-- No instruction clears OVERRUN. -/
theorem exec_overrun_of_set {i : Instr} {s t : State} (h : exec i s = .next t) (ho : s.overrun = true) :
    t.overrun = true := by
  rcases exec_cases h with
    rfl | rfl | ⟨v, rfl⟩ | ⟨-, ⟨v, rfl⟩ | ⟨v, rfl⟩ | rfl | ⟨req, prog, rfl⟩ | rfl⟩ <;> simp [ho]

/-- No move of an agent clears OVERRUN. -/
theorem runMove_overrun_of_set {m : Move} {s t : State} (h : runMove m s = .next t) (ho : s.overrun = true) :
    t.overrun = true := by
  rcases runMove_cases h with ⟨-, i, hi⟩ | ⟨-, he⟩ | ⟨addr, byte, -, -, rfl⟩ | ⟨regions, -, rfl⟩
  · exact exec_overrun_of_set hi ho
  · exact (engineStep_overrun he).trans ho
  · exact (hostStore_overrun addr byte s).trans ho
  · exact ho

/-- Once OVERRUN is set, a reset clears it and no other step does. -/
theorem step_overrun_of_set {s t : State} (h : step s = .next t) (ho : s.overrun = true) :
    t.overrun = !resetNext s := by
  rcases step_cases h with ⟨hs, he⟩ | ⟨m, rest, hs, rfl⟩ | ⟨m, rest, hs, hm⟩
  · simpa [resetNext, hs] using (engineStep_overrun he).trans ho
  · simp [resetNext, hs]
  · simpa [resetNext, hs] using runMove_overrun_of_set hm ho

/-- Settles O20, from the rule of a write while BUSY and the case split of a step. -/
theorem overrunIsSetAndSticky : Obligations.OverrunIsSetAndSticky := by
  refine ⟨fun s h => ⟨?_, fun req prog => ?_, fun v => ⟨?_, ?_, ?_⟩⟩, fun s t => step_overrun_of_set⟩
  · exact congrArg _ (issueCommand_busy h _)
  · exact congrArg _ (issueCommand_busy h _)
  · exact exec_regWrite_busy h .cmd (by simp) v
  · exact exec_regWrite_busy h .srcAddr (by simp) v
  · exact exec_regWrite_busy h .srcLen (by simp) v

/-! ### The state after reset (10_state.md R41) -/

/-- CAPS while BACKEND is what reset selected (10_state.md R21, R37). -/
theorem capsWord_of_backend_selected {s : State} (h : s.backend = selectBackend Config.hasHwCrc32) :
    capsWord s = if Config.hasHwCrc32 then 0x83#64 else 0x80#64 := by
  unfold capsWord
  rw [h]
  cases Config.hasHwCrc32 <;> decide

/-- Settles O12: the registers by the definition of `State.reset`, CAPS from the backend that reset selects. -/
theorem resetStateValues : Obligations.ResetStateValues := by
  refine ⟨rfl, rfl, rfl, rfl, rfl, rfl, rfl, rfl, rfl, rfl, rfl, rfl, rfl, rfl, rfl, rfl, ?_⟩
  have hcaps : readReg State.reset .caps = if Config.hasHwCrc32 then 0x83#64 else 0x80#64 :=
    capsWord_of_backend_selected rfl
  rw [← hcaps]
  exact exec_regRead_regOffset .caps State.reset

end Sys2Proof.Machine

/-! PROOFS. The register window and the writes through it (20_memory.md R64, R66). -/

namespace Sys2Proof

/-! ### Offsets and bus headers -/

theorem offsetAligned_iff (offset : BitVec 13) : offsetAligned offset = true ↔ offset.toNat % 8 = 0 := by
  rw [offsetAligned, beq_iff_eq, ← BitVec.toNat_inj, BitVec.extractLsb'_toNat, Nat.shiftRight_zero]
  rfl

@[simp] theorem headerZero_busHeader (dir : Bool) (offset : BitVec 13) : headerZero (busHeader dir offset) = 0#2 := by
  rw [headerZero, busHeader, BitVec.extractLsb'_append_eq_of_le (by decide)]
  cases dir <;> rfl

@[simp] theorem headerOffset_busHeader (dir : Bool) (offset : BitVec 13) :
    headerOffset (busHeader dir offset) = offset := by
  rw [headerOffset, busHeader, BitVec.extractLsb'_append_eq_of_add_le (by decide)]
  exact BitVec.extractLsb'_eq_self

@[simp] theorem headerDir_busHeader (dir : Bool) (offset : BitVec 13) : headerDir (busHeader dir offset) = dir := by
  rw [headerDir, busHeader, BitVec.getLsbD_append]
  cases dir <;> rfl

/-- The header of an aligned access decodes to that access (30_encoding.md R97). -/
theorem decodeBus_busHeader (dir : Bool) {offset : BitVec 13} (h : offsetAligned offset = true) (data : Word) :
    decodeBus (busHeader dir offset) data = .ok (if dir then .regWrite offset data else .regRead offset) := by
  cases dir <;> simp [decodeBus, h]

/-- A command word never decodes to a register access (30_encoding.md R91). -/
theorem decodeCommand_ok {v : Word} {i : Instr} (h : decodeCommand v = .ok i) :
    i = .buildTables ∨ ∃ req prog, i = .hashStream req prog := by
  unfold decodeCommand at h
  split at h
  · cases h
  split at h
  · cases h
  split at h
  · exact .inr ⟨_, _, (Except.ok.inj h).symm⟩
  split at h
  · cases h
  · exact .inl (Except.ok.inj h).symm

end Sys2Proof

namespace Sys2Proof.Machine

/-! ### Raw accesses (20_memory.md R64) -/

theorem routeAccess_of_width {a : Access} (h : a.bytes ≠ 8) : routeAccess a = .error .accessWidth := if_pos h

theorem routeAccess_of_outside {a : Access} (h8 : a.bytes = 8) (hw : inWindow a.addr = false) :
    routeAccess a = .error .outsideWindow := by
  simp [routeAccess, h8, hw]

theorem routeAccess_of_unaligned {a : Access} (h8 : a.bytes = 8) (hw : inWindow a.addr = true)
    (ha : (a.addr.toNat - Config.regBase.toNat) % 8 ≠ 0) : routeAccess a = .error .unalignedAccess := by
  simp [routeAccess, h8, hw, ha]

theorem routeAccess_of_admitted {a : Access} (h8 : a.bytes = 8) (hw : inWindow a.addr = true)
    (ha : (a.addr.toNat - Config.regBase.toNat) % 8 = 0) :
    routeAccess a = .ok (.bus (busHeader a.write (BitVec.ofNat 13 (a.addr.toNat - Config.regBase.toNat))) a.data) := by
  simp [routeAccess, h8, hw, ha]

theorem runMove_access_refused {a : Access} {r : Refusal} (h : routeAccess a = .error r) (s : State) :
    runMove (.access a) s = .refused r := by
  simp [runMove, runAccess, h]

theorem runMove_access_routed {a : Access} {w : HostWord} (h : routeAccess a = .ok w) (s : State) :
    runMove (.access a) s = runTransaction w s := by
  simp [runMove, runAccess, h]

/-- The transaction of an aligned header is the register access it names (30_encoding.md R97). -/
theorem runTransaction_busHeader (dir : Bool) {offset : BitVec 13} (h : offsetAligned offset = true) (data : Word)
    (s : State) : runTransaction (.bus (busHeader dir offset) data) s =
      exec (if dir then .regWrite offset data else .regRead offset) s := by
  simp [runTransaction, decode, decodeBus_busHeader dir h]

/-- Settles O14: how the access is routed in each clause, and, for one that is admitted, what its header decodes to. -/
theorem windowAdmitsAlignedWordAccesses : Obligations.WindowAdmitsAlignedWordAccesses := by
  refine fun s a => ⟨fun h8 => ?_, fun h8 hout => ?_, fun h8 hlo hhi => ⟨fun hmis => ?_, fun hal => ?_⟩⟩
  · exact runMove_access_refused (routeAccess_of_width h8) s
  · have hw : inWindow a.addr = false := by
      rw [Bool.eq_false_iff, Ne, inWindow_iff]
      omega
    exact runMove_access_refused (routeAccess_of_outside h8 hw) s
  · exact runMove_access_refused (routeAccess_of_unaligned h8 ((inWindow_iff _).2 ⟨hlo, hhi⟩) hmis) s
  · rw [runMove_access_routed (routeAccess_of_admitted h8 ((inWindow_iff _).2 ⟨hlo, hhi⟩) hal) s]
    refine runTransaction_busHeader a.write ((offsetAligned_iff _).2 ?_) a.data s
    rw [BitVec.toNat_ofNat]
    omega

/-! ### Register writes (20_memory.md R66) -/

theorem exec_regWrite_aligned {offset : BitVec 13} (h : offsetAligned offset = true) (v : Word) (s : State) :
    exec (.regWrite offset v) s = .next (writeReg v (regAt offset) s) := if_pos h

theorem exec_regWrite_unaligned {offset : BitVec 13} (h : offset.toNat % 8 ≠ 0) (v : Word) (s : State) :
    exec (.regWrite offset v) s = .refused .unalignedAccess := if_neg (mt (offsetAligned_iff offset).1 h)

/-- An aligned offset is eight times its register index. -/
theorem toNat_eq_of_aligned {offset : BitVec 13} (h : offsetAligned offset = true) :
    offset.toNat = 8 * (offset.extractLsb' 3 10).toNat := by
  have hmod := (offsetAligned_iff offset).1 h
  have hlt := offset.isLt
  rw [BitVec.extractLsb'_toNat, Nat.shiftRight_eq_div_pow]
  omega

/-- CMD, SRC_ADDR and SRC_LEN, registers 2, 3 and 4, are the only writable ones (10_state.md R20). -/
theorem writeReg_regAt_of_index {offset : BitVec 13} (hc : (offset.extractLsb' 3 10).toNat ≠ 2)
    (ha : (offset.extractLsb' 3 10).toNat ≠ 3) (hl : (offset.extractLsb' 3 10).toNat ≠ 4) (v : Word) (s : State) :
    writeReg v (regAt offset) s = s := by
  unfold regAt
  split
  case h_3 h => exact absurd h hc
  case h_4 h => exact absurd h ha
  case h_5 h => exact absurd h hl
  case h_14 => split_ifs <;> rfl
  all_goals rfl

/-- A write to an aligned offset that is not CMD's, SRC_ADDR's or SRC_LEN's changes nothing. -/
theorem exec_regWrite_other {offset : BitVec 13} (h : offset.toNat % 8 = 0) (hc : offset ≠ regOffset .cmd)
    (ha : offset ≠ regOffset .srcAddr) (hl : offset ≠ regOffset .srcLen) (v : Word) (s : State) :
    exec (.regWrite offset v) s = .next s := by
  have haligned := (offsetAligned_iff offset).2 h
  have hidx := toNat_eq_of_aligned haligned
  rw [exec_regWrite_aligned haligned, writeReg_regAt_of_index]
  · exact fun e => hc (BitVec.eq_of_toNat_eq (hidx.trans (by rw [e]; rfl)))
  · exact fun e => ha (BitVec.eq_of_toNat_eq (hidx.trans (by rw [e]; rfl)))
  · exact fun e => hl (BitVec.eq_of_toNat_eq (hidx.trans (by rw [e]; rfl)))

/-- A legal command word written to CMD is the command it decodes to, BUSY or not (44_dispatcher.md R210). -/
theorem exec_regWrite_cmd_of_legal {v : Word} {i : Instr} (h : decodeCommand v = .ok i) (s : State) :
    exec (.regWrite (regOffset .cmd) v) s = exec i s := by
  rw [exec_regWrite_regOffset]
  rcases decodeCommand_ok h with rfl | ⟨req, prog, rfl⟩
  · have hacc : acceptCommand v = acceptBuildTables := by
      funext u
      simp [acceptCommand, h]
    simp [writeReg, hacc, exec, execBuildTables]
  · have hacc : acceptCommand v = acceptHashStream req prog := by
      funext u
      simp [acceptCommand, h]
    simp [writeReg, hacc, exec, execHashStream]

/-- An illegal command word written to CMD clears the results and raises ILLEGAL_COMMAND (60_exceptions.md R255). -/
theorem exec_regWrite_cmd_of_illegal {v : Word} {e : DecodeError} (h : decodeCommand v = .error e) {s : State}
    (hb : s.engineState ≠ .busy) :
    exec (.regWrite (regOffset .cmd) v) s = .next (raiseError .illegalCommand (clearResults s)) := by
  have hacc : acceptCommand v (clearResults s) = raiseError .illegalCommand (clearResults s) := by
    simp [acceptCommand, h]
  rw [exec_regWrite_regOffset, ← hacc]
  exact congrArg _ (issueCommand_accept hb _)

/-- Settles O18, from the rule of a write to each writable register and the offsets at which these stand. -/
theorem regWriteEffects : Obligations.RegWriteEffects := by
  refine fun s offset v => ⟨fun h => ?_, fun ho hb => ?_, fun ho hb => ?_, fun ho hb => ?_, fun ho hb => ?_,
    fun hal hc ha hl => ?_⟩
  · exact exec_regWrite_unaligned h v s
  · rcases ho with rfl | rfl | rfl
    · exact exec_regWrite_busy hb .cmd (by simp) v
    · exact exec_regWrite_busy hb .srcAddr (by simp) v
    · exact exec_regWrite_busy hb .srcLen (by simp) v
  · subst ho
    exact exec_regWrite_srcAddr hb v
  · subst ho
    exact exec_regWrite_srcLen hb v
  · subst ho
    split
    · next i hi => exact exec_regWrite_cmd_of_legal hi s
    · next e he => exact exec_regWrite_cmd_of_illegal he hb
  · exact exec_regWrite_other hal hc ha hl v s

end Sys2Proof.Machine

/-! PROOFS. The encoding of commands, requests and tags, and the digest text (30_encoding.md R92, R93, R95, R100). -/

namespace Sys2Proof

/-! ### The fields of a command word (30_encoding.md R90) -/

section commandWordFields
variable (op : BitVec 4) (req : BitVec 5) (prog : Bool)

@[simp] theorem cmdOp_commandWord : cmdOp (commandWord op req prog) = op := by
  rw [cmdOp, commandWord, BitVec.extractLsb'_append_eq_of_add_le (by decide)]
  exact BitVec.extractLsb'_eq_self

@[simp] theorem cmdReq_commandWord : cmdReq (commandWord op req prog) = req := by
  rw [cmdReq, commandWord, BitVec.extractLsb'_append_eq_of_le (by decide),
    BitVec.extractLsb'_append_eq_of_add_le (by decide)]
  exact BitVec.extractLsb'_eq_self

@[simp] theorem cmdProg_commandWord : cmdProg (commandWord op req prog) = prog := by
  simp only [cmdProg, commandWord, BitVec.getLsbD_append]
  cases prog <;> rfl

@[simp] theorem cmdRsv_commandWord : cmdRsv (commandWord op req prog) = 0 := by
  rw [cmdRsv, commandWord, BitVec.extractLsb'_append_eq_of_le (by decide),
    BitVec.extractLsb'_append_eq_of_le (by decide), BitVec.extractLsb'_append_eq_of_le (by decide)]
  exact BitVec.extractLsb'_eq_self

/-- The place values of the fields. -/
theorem toNat_commandWord :
    (commandWord op req prog).toNat = op.toNat + 16 * req.toNat + 512 * prog.toNat := by
  rw [commandWord, BitVec.toNat_append, ← Nat.shiftLeft_add_eq_or_of_lt op.isLt, BitVec.toNat_append,
    ← Nat.shiftLeft_add_eq_or_of_lt req.isLt, BitVec.toNat_append,
    ← Nat.shiftLeft_add_eq_or_of_lt (BitVec.ofBool prog).isLt, BitVec.toNat_ofBool, BitVec.toNat_ofNat]
  omega

end commandWordFields

/-- A word with RSV = 0 is made of its other three fields. -/
theorem commandWord_fields {v : Word} (h : cmdRsv v = 0) : commandWord (cmdOp v) (cmdReq v) (cmdProg v) = v := by
  have hv : v.toNat / 2 ^ 10 % 2 ^ 54 = 0 := by
    simpa [cmdRsv, BitVec.extractLsb'_toNat, Nat.shiftRight_eq_div_pow] using congrArg BitVec.toNat h
  have hp : (cmdProg v).toNat = v.toNat / 2 ^ 9 % 2 := by
    rw [cmdProg, BitVec.getLsbD, Nat.toNat_testBit]
  apply BitVec.eq_of_toNat_eq
  rw [toNat_commandWord, hp, cmdOp, cmdReq, BitVec.extractLsb'_toNat, BitVec.extractLsb'_toNat,
    Nat.shiftRight_eq_div_pow, Nat.shiftRight_eq_div_pow]
  omega

/-! ### Decoding a command word (30_encoding.md R91 to R94) -/

theorem decodeCommand_buildTables : decodeCommand (commandWord opBuildTables 0 false) = .ok .buildTables := by
  decide

theorem decodeCommand_hashStream (req : BitVec 5) (prog : Bool) :
    decodeCommand (commandWord opHashStream req prog) = .ok (.hashStream req prog) := by
  simp [decodeCommand]

/-- A legal command word is the word of what it decodes to. -/
theorem encode_of_decodeCommand {v : Word} {i : Instr} (h : decodeCommand v = .ok i) : encode i = .cmd v := by
  unfold decodeCommand at h
  split at h
  · cases h
  next hop =>
  split at h
  · cases h
  next hrsv =>
  have hword := commandWord_fields (not_not.1 hrsv)
  split at h
  next hhash =>
    cases h
    exact congrArg _ (hhash ▸ hword)
  next hhash =>
  split at h
  · cases h
  next hargs =>
    cases h
    have hbuild : cmdOp v = opBuildTables := not_not.1 fun hne => hop ⟨hne, hhash⟩
    obtain ⟨hreq, hprog⟩ := not_or.1 hargs
    rw [hbuild, not_not.1 hreq, Bool.eq_false_iff.2 hprog] at hword
    exact congrArg _ hword

theorem decodeCommand_eq_buildTables_iff (v : Word) : decodeCommand v = .ok .buildTables ↔ v = 1 :=
  ⟨fun h => (HostWord.cmd.inj (encode_of_decodeCommand h)).symm, fun h => h ▸ decodeCommand_buildTables⟩

/-- A legal command word whose OP is that of BUILD_TABLES decodes to BUILD_TABLES. -/
theorem eq_buildTables_of_cmdOp {v : Word} {i : Instr} (hop : cmdOp v = opBuildTables) (h : decodeCommand v = .ok i) :
    i = .buildTables := by
  rcases decodeCommand_ok h with rfl | ⟨req, prog, rfl⟩
  · rfl
  · have hword : commandWord opHashStream req prog = v := HostWord.cmd.inj (encode_of_decodeCommand h)
    rw [← hword, cmdOp_commandWord] at hop
    exact absurd hop (by decide)

/-- Settles O5: a legal word is the encoding of what it decodes to, and with OP = 1 that can only be BUILD_TABLES. -/
theorem buildTablesHasOneWord : Obligations.BuildTablesHasOneWord := by
  refine fun v => ⟨decodeCommand_eq_buildTables_iff v, fun hop hv => ?_⟩
  cases hd : decode (.cmd v) with
  | error e => exact ⟨e, rfl⟩
  | ok i =>
    obtain rfl := eq_buildTables_of_cmdOp hop hd
    exact absurd ((decodeCommand_eq_buildTables_iff v).1 hd) hv

end Sys2Proof

namespace Sys2Proof.Machine

/-! ### Request masks (30_encoding.md R92) -/

theorem getLsbD_bit_algorithm (a b : Algorithm) :
    (1#5 <<< algorithmBit b).getLsbD (algorithmBit a) = decide (a = b) := by
  cases a <;> cases b <;> rfl

/-- Adding algorithms to a mask sets their bits and keeps the others. -/
theorem getLsbD_foldl_algorithmBit (algs : List Algorithm) (m : BitVec 5) (a : Algorithm) :
    (algs.foldl (fun m b => m ||| (1#5 <<< algorithmBit b)) m).getLsbD (algorithmBit a) =
      (m.getLsbD (algorithmBit a) || decide (a ∈ algs)) := by
  induction algs generalizing m with
  | nil => simp
  | cons b algs ih =>
    rw [List.foldl_cons, ih, BitVec.getLsbD_or, getLsbD_bit_algorithm]
    simp [Bool.or_assoc]

theorem getLsbD_requestMask (algs : List Algorithm) (a : Algorithm) :
    (requestMask algs).getLsbD (algorithmBit a) = true ↔ a ∈ algs := by
  simp [requestMask, getLsbD_foldl_algorithmBit]

/-- RES_VALID stands in STATUS from bit 16 on (10_state.md R22). -/
theorem getLsbD_statusWord_resValid (s : State) {k : Nat} (hk : k < 5) :
    (statusWord s).getLsbD (16 + k) = s.resValid.getLsbD k := by
  have hfield : (statusWord s).extractLsb' 16 5 = s.resValid := by
    rw [statusWord]
    simp (disch := decide) only [BitVec.extractLsb'_append_eq_of_le, BitVec.extractLsb'_append_eq_of_add_le]
    exact BitVec.extractLsb'_eq_self
  rw [← hfield, BitVec.getLsbD_extractLsb', decide_eq_true hk, Bool.true_and]

/-- Settles O57: the mask bit by bit, the HASH_STREAM word by the place values of its fields, and the place of RES_VALID. -/
theorem requestMaskIsTheSet : Obligations.RequestMaskIsTheSet := by
  refine ⟨fun algs => ?_, fun req prog => ?_, fun s k hk => getLsbD_statusWord_resValid s hk⟩
  · exact ⟨getLsbD_requestMask algs .crc16, getLsbD_requestMask algs .crc32, getLsbD_requestMask algs .crc64,
      getLsbD_requestMask algs .xxh64, getLsbD_requestMask algs .xxh128⟩
  · have hnat : (commandWord opHashStream req prog).toNat = 2 + 16 * req.toNat + 512 * prog.toNat :=
      toNat_commandWord opHashStream req prog
    rw [← hnat, BitVec.ofNat_toNat, BitVec.setWidth_eq]
    exact decodeCommand_hashStream req prog

/-! ### Routine tags (30_encoding.md R95) -/

theorem routineTag_routineTag (req : BitVec 5) : routineTag (routineTag req) = routineTag req := by
  revert req
  decide

/-- The tags are the requests that their own tag leaves as they are. -/
theorem exists_routineTag_eq_iff (tag : BitVec 5) : (∃ req, routineTag req = tag) ↔ routineTag tag = tag :=
  ⟨fun ⟨req, h⟩ => h ▸ routineTag_routineTag req, fun h => ⟨tag, h⟩⟩

/-- Settles O6: the shifted bit is 0x08 or 0, and the tags are the fixed points of `routineTag`. -/
theorem routineTagsCollapse : Obligations.RoutineTagsCollapse := by
  refine ⟨fun req => ?_, fun tag => ?_⟩
  · unfold routineTag
    cases req.getLsbD 4 <;> rfl
  · rw [exists_routineTag_eq_iff]
    revert tag
    decide

/-! ### The digest text (30_encoding.md R100) -/

theorem isHexDigit_hexDigit : ∀ v < 16, Claims.isHexDigit (hexDigit v) := by
  unfold Claims.isHexDigit
  decide

theorem textValue_concat_hexDigit (cs : List Char) {v : Nat} (hv : v < 16) :
    Claims.textValue (cs ++ [hexDigit v]) = 16 * Claims.textValue cs + v := by
  have hdigit : ∀ v < 16, (if (hexDigit v).toNat < 58 then (hexDigit v).toNat - 48 else (hexDigit v).toNat - 55) = v := by
    decide
  simp only [Claims.textValue, List.foldl_append, List.foldl_cons, List.foldl_nil, hdigit v hv]

@[simp] theorem hexText_length (digits v : Nat) : (hexText digits v).length = digits := by
  induction digits generalizing v with
  | zero => rfl
  | succ digits ih => simp [hexText, ih]

theorem isHexDigit_of_mem_hexText {digits v : Nat} {c : Char} (h : c ∈ hexText digits v) : Claims.isHexDigit c := by
  induction digits generalizing v with
  | zero => cases h
  | succ digits ih =>
    rcases List.mem_append.1 h with h | h
    · exact ih h
    · rw [List.mem_singleton.1 h]
      exact isHexDigit_hexDigit _ (Nat.mod_lt v (by decide))

/-- Digits written after a text move its value up by their number of places. -/
theorem textValue_append_hexText (cs : List Char) (digits v : Nat) :
    Claims.textValue (cs ++ hexText digits v) = 16 ^ digits * Claims.textValue cs + v % 16 ^ digits := by
  induction digits generalizing v with
  | zero => simp [hexText, Nat.mod_one]
  | succ digits ih =>
    rw [hexText, ← List.append_assoc, textValue_concat_hexDigit _ (Nat.mod_lt v (by decide)), ih, pow_succ', Nat.mod_mul]
    ring

theorem textValue_hexText {digits v : Nat} (h : v < 16 ^ digits) : Claims.textValue (hexText digits v) = v := by
  simpa [Claims.textValue, Nat.mod_eq_of_lt h] using textValue_append_hexText [] digits v

/-- A value below 16 ^ digits is rendered by that many digits. -/
theorem hexText_renders {digits v : Nat} (h : v < 16 ^ digits) :
    (hexText digits v).length = digits ∧ Claims.textValue (hexText digits v) = v :=
  ⟨hexText_length digits v, textValue_hexText h⟩

theorem isHexDigit_of_mem_digestText {s : State} {k : Algorithm} {c : Char} (h : c ∈ digestText s k) :
    Claims.isHexDigit c := by
  cases k with
  | xxh128 => exact (List.mem_append.1 h).elim isHexDigit_of_mem_hexText isHexDigit_of_mem_hexText
  | _ => exact isHexDigit_of_mem_hexText h

/-- The digest text of XXH128 stands for RES_XXH128_HI followed by RES_XXH128_LO. -/
theorem textValue_digestText_xxh128 (s : State) :
    Claims.textValue (digestText s .xxh128) = s.resXxh128Hi.toNat * 2 ^ 64 + s.resXxh128Lo.toNat := by
  have hlo : s.resXxh128Lo.toNat < 16 ^ 16 := s.resXxh128Lo.isLt
  rw [digestText, textValue_append_hexText, textValue_hexText s.resXxh128Hi.isLt, Nat.mod_eq_of_lt hlo]
  omega

/-- Settles O55: a text of as many digits as the register has nibbles stands for the register. -/
theorem digestTextRendersRegisters : Obligations.DigestTextRendersRegisters := by
  refine fun s => ⟨hexText_renders s.resCrc16.isLt, hexText_renders s.resCrc32.isLt, hexText_renders s.resCrc64.isLt,
    hexText_renders s.resXxh64.isLt, ⟨?_, textValue_digestText_xxh128 s⟩, fun k c => isHexDigit_of_mem_digestText⟩
  simp [digestText]

end Sys2Proof.Machine

/-! PROOFS. The table generator: the build step, the table windows and what keeps the tables (40_table_generator.md R135,
R136). -/

namespace Sys2Proof.Machine

/-! ### The build step and the table windows (40_table_generator.md R135, 10_state.md R31) -/

/-- The engine's step while BUILD_TABLES runs is the build step (40_table_generator.md R134). -/
theorem engineStep_of_building {s : State} (hb : s.engineState = .busy) (hop : s.lOp = opBuildTables) :
    engineStep s = .next (buildStep s) := by
  simp [engineStep, hb, hop]

/-- Entry i of a table window stands 8 i bytes after the window's start (10_state.md R20). -/
theorem toNat_windowOffset (k : BitVec 2) (i : BitVec 8) : (k ++ i ++ 0#3).toNat = 0x800 * k.toNat + 8 * i.toNat := by
  have hi := i.isLt
  rw [BitVec.toNat_append, BitVec.toNat_append, ← Nat.shiftLeft_add_eq_or_of_lt hi]
  simp only [BitVec.toNat_ofNat, Nat.shiftLeft_eq, Nat.zero_mod, Nat.or_zero]
  omega

theorem windowOffset_eq_ofNat (k : BitVec 2) (i : BitVec 8) :
    k ++ i ++ 0#3 = BitVec.ofNat 13 (0x800 * k.toNat + 8 * i.toNat) := by
  rw [← toNat_windowOffset, BitVec.ofNat_toNat, BitVec.setWidth_eq]

theorem regOffset_crc16Table (i : BitVec 8) : regOffset (.crc16Table i) = BitVec.ofNat 13 (0x800 + 8 * i.toNat) :=
  windowOffset_eq_ofNat 0b01#2 i

theorem regOffset_crc64Table (i : BitVec 8) : regOffset (.crc64Table i) = BitVec.ofNat 13 (0x1000 + 8 * i.toNat) :=
  windowOffset_eq_ofNat 0b10#2 i

/-- Settles O23, from the build step, the entries of the built tables and the offsets of the two windows. -/
theorem buildStepWritesWholeTables : Obligations.BuildStepWritesWholeTables := by
  refine ⟨fun s hb hop => ⟨buildStep s, engineStep_of_building hb hop, rfl, fun b => ⟨?_, ?_⟩⟩, fun s i hv => ⟨?_, ?_⟩⟩
  · exact tableAt_builtT16 b
  · exact tableAt_builtT64 b
  · rw [← regOffset_crc16Table, exec_regRead_regOffset]
    simp [readReg, hv]
  · rw [← regOffset_crc64Table, exec_regRead_regOffset]
    simp [readReg, hv]

/-! ### What keeps the tables (40_table_generator.md R136) -/

/-- T16, T64 and TABLES_VALID: what only BUILD_TABLES and reset may change (40_table_generator.md R136). -/
def tableState (s : State) : Vector (BitVec 16) 256 × Vector Word 256 × Bool := (s.t16, s.t64, s.tablesValid)

theorem tableState_eq_iff (s t : State) :
    tableState t = tableState s ↔ t.t16 = s.t16 ∧ t.t64 = s.t64 ∧ t.tablesValid = s.tablesValid := by
  simp [tableState]

theorem tableState_acceptHashStream (req : BitVec 5) (prog : Bool) (s : State) :
    tableState (acceptHashStream req prog s) = tableState s := by
  rcases acceptHashStream_cases req prog s with ⟨-, e⟩ | ⟨code, -, -, e⟩
  · rw [e]
    rfl
  · rw [e]
    rfl

theorem tableState_scanStep (s : State) : tableState (scanStep s) = tableState s :=
  scanStep_field tableState (fun _ => rfl) (fun _ _ => rfl) (fun _ => rfl) (fun _ _ => rfl) s

theorem tableState_hostStore (addr : Word) (byte : Byte) (s : State) :
    tableState (hostStore addr byte s) = tableState s := by
  simp [tableState_eq_iff]

/-- An engine step that is not the build step leaves the tables alone. -/
theorem engineStep_tableState {s t : State} (h : engineStep s = .next t)
    (hn : ¬ (s.engineState = .busy ∧ s.lOp = opBuildTables)) : tableState t = tableState s := by
  rcases engineStep_cases h with ⟨-, rfl⟩ | ⟨hb, hop, -⟩ | ⟨-, -, -, rfl⟩ | ⟨-, -, -, rfl⟩
  · rfl
  · exact absurd ⟨hb, hop⟩ hn
  · exact tableState_scanStep s
  · rfl

/-- An instruction leaves the tables alone, unless it is the acceptance of BUILD_TABLES. -/
theorem exec_tableState {i : Instr} {s t : State} (h : exec i s = .next t) :
    tableState t = tableState s ∨ (s.engineState ≠ .busy ∧ t = acceptBuildTables (clearResults s)) := by
  rcases exec_cases h with
    rfl | rfl | ⟨v, rfl⟩ | ⟨hb, ⟨v, rfl⟩ | ⟨v, rfl⟩ | rfl | ⟨req, prog, rfl⟩ | rfl⟩
  · exact .inl rfl
  · exact .inl rfl
  · exact .inl rfl
  · exact .inl rfl
  · exact .inl rfl
  · exact .inr ⟨hb, rfl⟩
  · exact .inl (tableState_acceptHashStream req prog (clearResults s))
  · exact .inl rfl

/-- A step that is neither a reset nor the build step leaves the tables alone, unless it is a host access that is the
acceptance of BUILD_TABLES. -/
theorem step_tableState {s t : State} (h : step s = .next t) (hr : resetNext s = false)
    (hn : ¬ (engineNext s = true ∧ s.engineState = .busy ∧ s.lOp = opBuildTables)) :
    tableState t = tableState s ∨ (hostAccessNext s = true ∧ s.engineState ≠ .busy ∧
      ∃ rest, t = acceptBuildTables (clearResults { s with schedule := rest })) := by
  rcases step_cases h with ⟨hs, he⟩ | ⟨m, rest, hs, -⟩ | ⟨m, rest, hs, hm⟩
  · exact .inl (engineStep_tableState he fun hb => hn ⟨by simp [engineNext, hs], hb⟩)
  · simp [resetNext, hs] at hr
  · rcases runMove_cases hm with ⟨hacc, i, hi⟩ | ⟨rfl, he⟩ | ⟨addr, byte, -, -, rfl⟩ | ⟨regions, -, rfl⟩
    · have hhost : hostAccessNext s = true := by
        rcases hacc with ⟨w, rfl⟩ | ⟨a, rfl⟩ <;> simp [hostAccessNext, hs]
      exact (exec_tableState hi).imp_right fun ⟨hb, ht⟩ => ⟨hhost, hb, rest, ht⟩
    · have hkeep := engineStep_tableState he fun hb => hn ⟨by simp [engineNext, hs], hb⟩
      exact .inl hkeep
    · exact .inl (tableState_hostStore addr byte _)
    · exact .inl rfl

theorem step_tablesValid_of_reset {s t : State} (h : step s = .next t) (hr : resetNext s = true) :
    t.tablesValid = false := by
  rcases step_cases h with ⟨hs, -⟩ | ⟨m, rest, -, rfl⟩ | ⟨m, rest, hs, -⟩
  · simp [resetNext, hs] at hr
  · rfl
  · simp [resetNext, hs] at hr

/-- Settles O25, from what a step does to the tables and the state that the acceptance of BUILD_TABLES leaves. -/
theorem tablesWrittenOnlyByBuild : Obligations.TablesWrittenOnlyByBuild := by
  refine fun s t h => ⟨fun hr hn => ?_, step_tablesValid_of_reset h⟩
  rcases step_tableState h hr hn with hkeep | ⟨hacc, hb, rest, rfl⟩
  · obtain ⟨h16, h64, hv⟩ := (tableState_eq_iff s t).1 hkeep
    exact ⟨h16, h64, .inl hv⟩
  · exact ⟨rfl, rfl, .inr ⟨hacc, hb, rfl, rfl, rfl⟩⟩

end Sys2Proof.Machine

/-! PROOFS. REG_READ: what each register shows and where it stands in the window (44_dispatcher.md R223, 10_state.md
R20 to R32). -/

namespace Sys2Proof.Machine

/-! ### STATUS and CAPS as numbers (10_state.md R21, R22) -/

/-- The place value of the left part of a concatenation. -/
theorem toNat_append_eq_add {v w : Nat} (x : BitVec v) (y : BitVec w) :
    (x ++ y).toNat = x.toNat * 2 ^ w + y.toNat := by
  rw [BitVec.toNat_append, ← Nat.shiftLeft_add_eq_or_of_lt y.isLt, Nat.shiftLeft_eq]

/-- The number of STATUS by the model's codes of STATE and ERR (10_state.md R23, 60_exceptions.md R250). -/
theorem statusNumber_eq_fields (s : State) :
    Claims.statusNumber s = (stateCode s.engineState).toNat + 16 * (errCode s.err).toNat + 256 * s.tablesValid.toNat +
      512 * s.overrun.toNat + 65536 * s.resValid.toNat := by
  unfold Claims.statusNumber
  congr 4
  · cases s.engineState <;> rfl
  · cases s.err <;> rfl
  · cases s.tablesValid <;> rfl
  · cases s.overrun <;> rfl

theorem statusWord_eq_ofNat (s : State) : statusWord s = BitVec.ofNat 64 (Claims.statusNumber s) := by
  have hplaces : (statusWord s).toNat = Claims.statusNumber s := by
    simp only [statusWord, toNat_append_eq_add, BitVec.toNat_ofBool, BitVec.toNat_ofNat, statusNumber_eq_fields]
    omega
  rw [← hplaces, BitVec.ofNat_toNat, BitVec.setWidth_eq]

theorem capsWord_eq_ofNat (s : State) : capsWord s = BitVec.ofNat 64 (Claims.capsNumber s) := by
  unfold capsWord Claims.capsNumber
  cases s.backend <;> cases Config.hasHwCrc32 <;> rfl

/-! ### Each register at its own offset (10_state.md R20) -/

theorem toNat_regOffset_crc16Table (i : BitVec 8) : (regOffset (.crc16Table i)).toNat = 0x800 + 8 * i.toNat :=
  toNat_windowOffset 0b01#2 i

theorem toNat_regOffset_crc64Table (i : BitVec 8) : (regOffset (.crc64Table i)).toNat = 0x1000 + 8 * i.toNat :=
  toNat_windowOffset 0b10#2 i

theorem getElem?_getD_eq_tableAt {w : Nat} (t : Vector (BitVec w) 256) (i : BitVec 8) :
    t[i.toNat]?.getD 0 = tableAt t i := by
  rw [tableAt, Vector.getElem?_eq_getElem, Option.getD_some]

theorem windowValue_crc16Table (s : State) (i : BitVec 8) :
    Claims.windowValue s (0x800 + 8 * i.toNat) = readReg s (.crc16Table i) := by
  have hi := i.isLt
  have hindex : (0x800 + 8 * i.toNat - 0x800) / 8 = i.toNat := by omega
  unfold Claims.windowValue
  rw [hindex, getElem?_getD_eq_tableAt]
  simp (disch := omega) only [if_neg, if_pos]
  rw [BitVec.ofNat_toNat]
  rfl

theorem windowValue_crc64Table (s : State) (i : BitVec 8) :
    Claims.windowValue s (0x1000 + 8 * i.toNat) = readReg s (.crc64Table i) := by
  have hi := i.isLt
  have hindex : (0x1000 + 8 * i.toNat - 0x1000) / 8 = i.toNat := by omega
  unfold Claims.windowValue
  rw [hindex, getElem?_getD_eq_tableAt]
  simp (disch := omega) only [if_neg, if_pos]
  rfl

/-- A register reads as the window's table says of its offset. -/
theorem readReg_eq_windowValue (s : State) (r : Reg) : readReg s r = Claims.windowValue s (regOffset r).toNat := by
  cases r with
  | caps => exact capsWord_eq_ofNat s
  | status => exact statusWord_eq_ofNat s
  | resCrc16 => exact (BitVec.ofNat_toNat 64 s.resCrc16).symm
  | resCrc32 => exact (BitVec.ofNat_toNat 64 s.resCrc32).symm
  | crc16Table i => rw [toNat_regOffset_crc16Table, windowValue_crc16Table]
  | crc64Table i => rw [toNat_regOffset_crc64Table, windowValue_crc64Table]
  | _ => rfl

/-! ### The register at an offset (10_state.md R20, R32) -/

/-- The offsets of the window that 10_state.md R32 reserves. -/
def reservedOffset (o : Nat) : Prop := (0x060 < o ∧ o < 0x800) ∨ 0x17F8 < o

theorem windowValue_of_reserved {o : Nat} (h : reservedOffset o) (s : State) : Claims.windowValue s o = 0 := by
  unfold reservedOffset at h
  unfold Claims.windowValue
  simp (disch := omega) only [if_neg]

/-- Up to PROGRESS every index is a register's own. -/
theorem toNat_regOffset_regAt_of_index_le {offset : BitVec 13} (h : (offset.extractLsb' 3 10).toNat ≤ 12) :
    (regOffset (regAt offset)).toNat = 8 * (offset.extractLsb' 3 10).toNat := by
  unfold regAt
  generalize (offset.extractLsb' 3 10).toNat = k at h ⊢
  interval_cases k <;> rfl

/-- Past PROGRESS the window holds the two tables and reserved offsets. -/
theorem regAt_of_index_gt {offset : BitVec 13} (h : 12 < (offset.extractLsb' 3 10).toNat) :
    regAt offset =
      if (offset.extractLsb' 3 10).toNat < 0x100 then .reserved
      else if (offset.extractLsb' 3 10).toNat < 0x200 then .crc16Table (offset.extractLsb' 3 8)
      else if (offset.extractLsb' 3 10).toNat < 0x300 then .crc64Table (offset.extractLsb' 3 8)
      else .reserved := by
  unfold regAt
  split
  case h_14 => rfl
  all_goals omega

/-- The entry's number is the low byte of the register index. -/
theorem toNat_tableIndex (offset : BitVec 13) :
    (offset.extractLsb' 3 8).toNat = (offset.extractLsb' 3 10).toNat % 256 := by
  rw [BitVec.extractLsb'_toNat, BitVec.extractLsb'_toNat]
  omega

/-- An aligned offset is the offset of the register that stands there, or it is reserved. -/
theorem regOffset_regAt_or_reserved {offset : BitVec 13} (h : offsetAligned offset = true) :
    regOffset (regAt offset) = offset ∨ (regAt offset = .reserved ∧ reservedOffset offset.toNat) := by
  have hidx := toNat_eq_of_aligned h
  by_cases hk : 12 < (offset.extractLsb' 3 10).toNat
  · rw [regAt_of_index_gt hk]
    have hentry := toNat_tableIndex offset
    unfold reservedOffset
    split_ifs
    · exact .inr ⟨rfl, by omega⟩
    · exact .inl (BitVec.eq_of_toNat_eq (by rw [toNat_regOffset_crc16Table]; omega))
    · exact .inl (BitVec.eq_of_toNat_eq (by rw [toNat_regOffset_crc64Table]; omega))
    · exact .inr ⟨rfl, by omega⟩
  · have hsmall := toNat_regOffset_regAt_of_index_le (Nat.not_lt.1 hk)
    exact .inl (BitVec.eq_of_toNat_eq (hsmall.trans hidx.symm))

/-- What REG_READ returns at an aligned offset (20_memory.md R65). -/
theorem readReg_regAt {offset : BitVec 13} (h : offsetAligned offset = true) (s : State) :
    readReg s (regAt offset) = Claims.windowValue s offset.toNat := by
  rcases regOffset_regAt_or_reserved h with hoff | ⟨hreg, hres⟩
  · rw [readReg_eq_windowValue, hoff]
  · rw [hreg, windowValue_of_reserved hres]
    rfl

/-! ### Register reads (44_dispatcher.md R223) -/

theorem exec_regRead_aligned {offset : BitVec 13} (h : offsetAligned offset = true) (s : State) :
    exec (.regRead offset) s = .next { s with readData := readReg s (regAt offset) } := if_pos h

theorem exec_regRead_unaligned {offset : BitVec 13} (h : offset.toNat % 8 ≠ 0) (s : State) :
    exec (.regRead offset) s = .refused .unalignedAccess := if_neg (mt (offsetAligned_iff offset).1 h)

/-- Settles O16, from the register that stands at each aligned offset and the value each register shows. -/
theorem regReadReturnsEveryRegister : Obligations.RegReadReturnsEveryRegister := by
  refine fun s offset => ⟨fun h => ?_, fun h => exec_regRead_unaligned h s⟩
  have haligned := (offsetAligned_iff offset).2 h
  rw [exec_regRead_aligned haligned, readReg_regAt haligned]

end Sys2Proof.Machine

/-! PROOFS. The checks of a command write and the errors they raise (60_exceptions.md R255, R257, R258), and the engine that
waits for a command (R269). -/

namespace Sys2Proof

/-! ### Legal command words, on the word as a number (30_encoding.md R101) -/

/-- A word that decodes is the word of a command, and neither command has an illegal word. -/
theorem not_illegalWord_of_decodeCommand {v : Word} {i : Instr} (h : decodeCommand v = .ok i) :
    ¬ Claims.illegalWord v := by
  have hword := encode_of_decodeCommand h
  unfold Claims.illegalWord
  rcases decodeCommand_ok h with rfl | ⟨req, prog, rfl⟩
  · rw [← HostWord.cmd.inj hword]
    decide
  · rw [← HostWord.cmd.inj hword, toNat_commandWord, show opHashStream.toNat = 2 from rfl]
    have hreq := req.isLt
    have hprog := prog.toNat_le
    omega

theorem decodeCommand_of_illegalWord {v : Word} (h : Claims.illegalWord v) : ∃ e, decodeCommand v = .error e := by
  cases hd : decodeCommand v with
  | error e => exact ⟨e, rfl⟩
  | ok i => exact absurd h (not_illegalWord_of_decodeCommand hd)

theorem decodeCommand_of_opNumber_one {v : Word} (hlegal : ¬ Claims.illegalWord v) (hop : Claims.opNumber v = 1) :
    decodeCommand v = .ok .buildTables := by
  rw [decodeCommand_eq_buildTables_iff]
  apply BitVec.eq_of_toNat_eq
  unfold Claims.illegalWord at hlegal
  unfold Claims.opNumber at hop
  show v.toNat = 1
  omega

theorem decodeCommand_of_opNumber_two {v : Word} (hlegal : ¬ Claims.illegalWord v) (hop : Claims.opNumber v = 2) :
    decodeCommand v = .ok (.hashStream (cmdReq v) (cmdProg v)) := by
  unfold Claims.illegalWord at hlegal
  have hrsv : cmdRsv v = 0 := by
    apply BitVec.eq_of_toNat_eq
    rw [cmdRsv, BitVec.extractLsb'_toNat, Nat.shiftRight_eq_div_pow]
    show v.toNat / 2 ^ 10 % 2 ^ 54 = 0
    omega
  have hhash : cmdOp v = opHashStream := by
    apply BitVec.eq_of_toNat_eq
    rw [cmdOp, BitVec.extractLsb'_toNat, Nat.shiftRight_zero]
    exact hop
  rw [← decodeCommand_hashStream, ← hhash, commandWord_fields hrsv]

end Sys2Proof

namespace Sys2Proof.Machine

/-! ### The command write -/

/-- A command word handed over is the write of it to CMD (30_encoding.md R90, R101). -/
theorem runMove_cmd (v : Word) (s : State) :
    runMove (.transaction (.cmd v)) s = exec (.regWrite (regOffset .cmd) v) s := by
  cases h : decodeCommand v with
  | ok i => simp [runMove, runTransaction, decode, h, exec_regWrite_cmd_of_legal h]
  | error e =>
    simp only [runMove, runTransaction, decode, h]
    rfl

/-- Settles O21: an illegal word decodes to nothing, and its write to CMD then raises ILLEGAL_COMMAND. -/
theorem illegalCommandWriteRaises : Obligations.IllegalCommandWriteRaises := by
  intro s v hb hv
  obtain ⟨e, he⟩ := decodeCommand_of_illegalWord hv
  exact ⟨exec_regWrite_cmd_of_illegal he hb, runMove_cmd v s⟩

/-! ### The checks of a HASH_STREAM, in order (60_exceptions.md R257) -/

theorem hashStreamCheck_of_empty {s : State} (req : BitVec 5) (h : s.srcLen = 0) :
    hashStreamCheck req s = .emptySource := if_pos h

theorem boundsOk_iff_sourceInBounds (s : State) :
    boundsOk s.unreadable s.srcAddr s.srcLen = true ↔ Claims.sourceInBounds s := boundsOk_iff _ _ _

theorem hashStreamCheck_of_unavailable {s : State} (req : BitVec 5) (hlen : s.srcLen ≠ 0)
    (hsrc : ¬ Claims.sourceInBounds s) : hashStreamCheck req s = .inputUnavailable := by
  rw [← boundsOk_iff_sourceInBounds] at hsrc
  rw [hashStreamCheck, if_neg hlen, if_pos hsrc]

theorem hashStreamCheck_of_missingTables {s : State} {req : BitVec 5} (hlen : s.srcLen ≠ 0)
    (hsrc : Claims.sourceInBounds s) (hreq : needsTables req = true) (ht : s.tablesValid = false) :
    hashStreamCheck req s = .tablesNotBuilt := by
  rw [← boundsOk_iff_sourceInBounds] at hsrc
  rw [hashStreamCheck, if_neg hlen, if_neg (not_not.2 hsrc), if_pos (by simp [hreq, ht])]

theorem hashStreamCheck_of_passed {s : State} {req : BitVec 5} (hlen : s.srcLen ≠ 0)
    (hsrc : Claims.sourceInBounds s) (ht : ¬ (needsTables req = true ∧ s.tablesValid = false)) :
    hashStreamCheck req s = .none :=
  (hashStreamCheck_none_iff req s).2 ⟨hlen, (boundsOk_iff_sourceInBounds s).2 hsrc, by simpa using ht⟩

/-- REQ[0] and REQ[2] are bits 4 and 6 of the command word (30_encoding.md R90). -/
theorem needsTables_cmdReq_iff (v : Word) :
    needsTables (cmdReq v) = true ↔ v.getLsbD 4 = true ∨ v.getLsbD 6 = true := by
  simp [needsTables, cmdReq]

theorem acceptHashStream_of_failed {s : State} {req : BitVec 5} {code : ErrorCode}
    (hcheck : hashStreamCheck req s = code) (hcode : code ≠ .none) (prog : Bool) :
    acceptHashStream req prog s = raiseError code s := by
  rcases acceptHashStream_cases req prog s with ⟨hnone, -⟩ | ⟨c, -, hc, e⟩
  · exact absurd (hcheck.symm.trans hnone) hcode
  · rw [e, ← hc, hcheck]

theorem acceptHashStream_of_passed {s : State} {req : BitVec 5} (hcheck : hashStreamCheck req s = .none)
    (prog : Bool) : acceptHashStream req prog s = beginHashStream req prog s := by
  rcases acceptHashStream_cases req prog s with ⟨-, e⟩ | ⟨c, hne, hc, -⟩
  · exact e
  · exact absurd (hc.symm.trans hcheck) hne

/-- A HASH_STREAM that fails a check ends in that check's error, only the results cleared (60_exceptions.md R256). -/
theorem exec_hashStream_of_failed {s : State} {req : BitVec 5} {code : ErrorCode} (hb : s.engineState ≠ .busy)
    (hcheck : hashStreamCheck req s = code) (hcode : code ≠ .none) (prog : Bool) :
    exec (.hashStream req prog) s = .next (raiseError code (clearResults s)) :=
  congrArg _ ((issueCommand_accept hb _).trans (acceptHashStream_of_failed (s := clearResults s) hcheck hcode prog))

/-- A HASH_STREAM that passes every check begins (44_dispatcher.md R213). -/
theorem exec_hashStream_of_passed {s : State} {req : BitVec 5} (hb : s.engineState ≠ .busy)
    (hcheck : hashStreamCheck req s = .none) (prog : Bool) :
    exec (.hashStream req prog) s = .next (beginHashStream req prog (clearResults s)) :=
  congrArg _ ((issueCommand_accept hb _).trans (acceptHashStream_of_passed (s := clearResults s) hcheck prog))

theorem exec_buildTables_of_not_busy {s : State} (hb : s.engineState ≠ .busy) :
    exec .buildTables s = .next (acceptBuildTables (clearResults s)) := congrArg _ (issueCommand_accept hb _)

/-- Settles O35: the empty source fails the first check, which does not look at the request. -/
theorem emptySourceWhateverRequest : Obligations.EmptySourceWhateverRequest := fun _ req prog hb hlen =>
  exec_hashStream_of_failed hb (hashStreamCheck_of_empty req hlen) (by decide) prog

/-- Settles O34: what the word decodes to, and for a HASH_STREAM the first check that fails. -/
theorem acceptanceChecksInOrder : Obligations.AcceptanceChecksInOrder := by
  refine fun s v => ⟨fun hb => exec_regWrite_busy hb .cmd (.inl rfl) v, fun hb => ⟨fun hill => ?_,
    fun hlegal hop => ?_, fun hlegal hop => ?_⟩⟩
  · obtain ⟨e, he⟩ := decodeCommand_of_illegalWord hill
    exact exec_regWrite_cmd_of_illegal he hb
  · have hwrite := exec_regWrite_cmd_of_legal (decodeCommand_of_opNumber_one hlegal hop) s
    exact ⟨_, hwrite.trans (exec_buildTables_of_not_busy hb), rfl, rfl, rfl⟩
  · have hwrite := exec_regWrite_cmd_of_legal (decodeCommand_of_opNumber_two hlegal hop) s
    rw [← needsTables_cmdReq_iff]
    refine ⟨fun hlen => ?_, fun hlen hsrc => ?_, fun hlen hsrc hreq ht => ?_, fun hlen hsrc ht => ?_⟩
    · exact hwrite.trans (exec_hashStream_of_failed hb (hashStreamCheck_of_empty _ hlen) (by decide) _)
    · exact hwrite.trans (exec_hashStream_of_failed hb (hashStreamCheck_of_unavailable _ hlen hsrc) (by decide) _)
    · exact hwrite.trans
        (exec_hashStream_of_failed hb (hashStreamCheck_of_missingTables hlen hsrc hreq ht) (by decide) _)
    · exact ⟨_, hwrite.trans (exec_hashStream_of_passed hb (hashStreamCheck_of_passed hlen hsrc ht) _), rfl, rfl, rfl⟩

/-! ### Waiting for a command (60_exceptions.md R269) -/

theorem engineStep_of_not_busy {s : State} (h : s.engineState ≠ .busy) : engineStep s = .next s := if_pos h

/-- With no move of the outside world, only the engine moves (00_scope.md R14). -/
theorem step_of_schedule_nil {s : State} (h : s.schedule = []) : step s = engineStep s := by
  simp [step, h]

/-- Settles O10: the engine takes no step unless BUSY, and it is the one that moves where the schedule is empty. -/
theorem engineWaitsUnlessBusy : Obligations.EngineWaitsUnlessBusy := fun _ hb =>
  ⟨engineStep_of_not_busy hb, fun hs => (step_of_schedule_nil hs).trans (engineStep_of_not_busy hb)⟩

end Sys2Proof.Machine

/-! PROOFS. Instructions and their words: encoding and decoding in both directions, and the transactions that carry them
(30_encoding.md R90 to R101, 20_memory.md R64). -/

namespace Sys2Proof

/-! ### Encoding and decoding (30_encoding.md R90 to R101) -/

/-- Settles O2, from what the decoder reads of the word of each row. -/
theorem decodeEncodeRoundTrip : Obligations.DecodeEncodeRoundTrip := by
  intro i hwf
  cases i with
  | buildTables => exact decodeCommand_buildTables
  | hashStream req prog => exact decodeCommand_hashStream req prog
  | regRead offset => exact decodeBus_busHeader false hwf 0
  | regWrite offset data => exact decodeBus_busHeader true hwf data

/-- The place values of the fields. -/
theorem toNat_busHeader (dir : Bool) (offset : BitVec 13) :
    (busHeader dir offset).toNat = 0x8000 * dir.toNat + offset.toNat := by
  rw [busHeader, Machine.toNat_append_eq_add, Machine.toNat_append_eq_add, BitVec.toNat_ofBool, BitVec.toNat_ofNat]
  omega

/-- A header with bits [14:13] 0 is made of its other two fields. -/
theorem busHeader_fields {h : BitVec 16} (hz : headerZero h = 0) : busHeader (headerDir h) (headerOffset h) = h := by
  have hzero : h.toNat / 2 ^ 13 % 2 ^ 2 = 0 := by
    simpa [headerZero, BitVec.extractLsb'_toNat, Nat.shiftRight_eq_div_pow] using congrArg BitVec.toNat hz
  have hdir : (headerDir h).toNat = h.toNat / 2 ^ 15 % 2 := by
    rw [headerDir, BitVec.getLsbD, Nat.toNat_testBit]
  apply BitVec.eq_of_toNat_eq
  rw [toNat_busHeader, hdir, headerOffset, BitVec.extractLsb'_toNat, Nat.shiftRight_zero]
  omega

/-- An admitted header decodes to the aligned register access of its two fields. -/
theorem decodeBus_ok {h : BitVec 16} {d : Word} {i : Instr} (hd : decodeBus h d = .ok i) :
    headerZero h = 0 ∧ offsetAligned (headerOffset h) = true ∧
      i = if headerDir h then .regWrite (headerOffset h) d else .regRead (headerOffset h) := by
  unfold decodeBus at hd
  split at hd
  · cases hd
  next hz =>
  split at hd
  · cases hd
  next haligned =>
  refine ⟨not_not.1 hz, not_not.1 haligned, ?_⟩
  rw [← apply_ite Except.ok] at hd
  exact (Except.ok.inj hd).symm

/-- What a bus transaction decodes to is encoded by its header and, for a write, its data. -/
theorem encode_of_decodeBus {h : BitVec 16} {d : Word} {i : Instr} (hd : decodeBus h d = .ok i) :
    i.wellFormed = true ∧ encode i = .bus h (if headerDir h then d else 0) := by
  obtain ⟨hz, haligned, rfl⟩ := decodeBus_ok hd
  have hword := busHeader_fields hz
  cases hdir : headerDir h <;> rw [hdir] at hword <;> exact ⟨haligned, congrArg (HostWord.bus · _) hword⟩

theorem wellFormed_of_decode {w : HostWord} {i : Instr} (h : decode w = .ok i) : i.wellFormed = true := by
  cases w with
  | cmd v => rcases decodeCommand_ok h with rfl | ⟨req, prog, rfl⟩ <;> rfl
  | bus hd d => exact (encode_of_decodeBus h).1

/-- Settles O3: each format's decoder reads the very fields the encoder writes. -/
theorem decodedWordsReencode : Obligations.DecodedWordsReencode := by
  refine ⟨fun v i h => ⟨wellFormed_of_decode h, encode_of_decodeCommand h⟩, fun h d i hd => ?_⟩
  obtain ⟨hwf, hword⟩ := encode_of_decodeBus hd
  exact ⟨hwf, _, hword, fun hdir => if_pos hdir⟩

/-- Settles O4: an illegal word decodes to nothing, and a legal one has the OP of one of the two commands. -/
theorem illegalCommandWordsExactly : Obligations.IllegalCommandWordsExactly := by
  refine fun v => ⟨fun ⟨e, he⟩ => ?_, decodeCommand_of_illegalWord⟩
  by_contra hlegal
  have hop : Claims.opNumber v = 1 ∨ Claims.opNumber v = 2 := by
    unfold Claims.illegalWord at hlegal
    unfold Claims.opNumber
    omega
  rcases hop with hop | hop
  · cases (decodeCommand_of_opNumber_one hlegal hop).symm.trans he
  · cases (decodeCommand_of_opNumber_two hlegal hop).symm.trans he

/-- Settles O1: the words of the sample rows, decoded. -/
theorem decodeSampleWords : Obligations.DecodeSampleWords := by
  unfold Obligations.DecodeSampleWords
  decide

end Sys2Proof

namespace Sys2Proof.Machine

/-! ### Transactions -/

/-- The step of a transaction with which no reset asserts. -/
theorem step_of_transaction {s : State} {w : HostWord} {rest : List Slot}
    (h : s.schedule = transactionSlot w :: rest) : step s = runTransaction w { s with schedule := rest } := by
  simp only [step, h]
  rfl

theorem runTransaction_of_decode {w : HostWord} {i : Instr} (h : decode w = .ok i) (s : State) :
    runTransaction w s = exec i s := by
  simp [runTransaction, h]

/-- Settles O7, from the step of a transaction and what its word decodes to. -/
theorem stepRunsDecodedInstruction : Obligations.StepRunsDecodedInstruction := fun _ _ _ _ hs hd =>
  (step_of_transaction hs).trans (runTransaction_of_decode hd _)

/-- Settles O8: the placed word is the next transaction, and taking it gives the state back. -/
theorem tableWordRunsNext : Obligations.TableWordRunsNext := by
  intro s nbits w i h
  have hd : decode (hostWordOfTable nbits w) = .ok i := by
    rw [decodeTableWord] at h
    cases hw : decode (hostWordOfTable nbits w) <;> simp_all [Except.toOption]
  exact (step_of_transaction rfl).trans (runTransaction_of_decode hd s)

/-- Settles O9: both are the write of v to CMD, and the write of a legal word is the command it decodes to. -/
theorem commandWordIsWriteToCmd : Obligations.CommandWordIsWriteToCmd := by
  refine fun s v => ⟨?_, fun i hi => exec_regWrite_cmd_of_legal hi s⟩
  rw [runMove_cmd]
  exact (runTransaction_busHeader true (offsetAligned_regOffset .cmd) v s).symm

/-- Every well-formed instruction answers a next state, whatever the state (44_dispatcher.md R223). -/
theorem exec_of_wellFormed {i : Instr} (h : i.wellFormed = true) (s : State) : ∃ t, exec i s = .next t := by
  cases i with
  | buildTables => exact ⟨_, rfl⟩
  | hashStream req prog => exact ⟨_, rfl⟩
  | regRead offset => exact ⟨_, exec_regRead_aligned h s⟩
  | regWrite offset data => exact ⟨_, exec_regWrite_aligned h data s⟩

/-- Only a register access can be ill formed, by its offset (20_memory.md R64). -/
theorem exec_of_not_wellFormed {i : Instr} (h : i.wellFormed = false) (s : State) :
    exec i s = .refused .unalignedAccess := by
  cases i with
  | buildTables => cases h
  | hashStream req prog => cases h
  | regRead offset => exact if_neg (Bool.eq_false_iff.1 h)
  | regWrite offset data => exact if_neg (Bool.eq_false_iff.1 h)

/-- Settles O13, from the two lemmas before. -/
theorem everyWellFormedInstructionCompletes : Obligations.EveryWellFormedInstructionCompletes := fun _ s =>
  ⟨fun h => exec_of_wellFormed h s, fun h => exec_of_not_wellFormed h s⟩

theorem runTransaction_of_reservedHeader {h : BitVec 16} (hz : headerZero h ≠ 0) (d : Word) (s : State) :
    runTransaction (.bus h d) s = .refused .reservedHeader := by
  have hd : decodeBus h d = .error .reservedHeaderBits := if_pos hz
  simp [runTransaction, decode, hd, rejectWord]

theorem runTransaction_of_unalignedHeader {h : BitVec 16} (hz : headerZero h = 0)
    (ho : offsetAligned (headerOffset h) = false) (d : Word) (s : State) :
    runTransaction (.bus h d) s = .refused .unalignedAccess := by
  have hd : decodeBus h d = .error .unalignedOffset := by simp [decodeBus, hz, ho]
  simp [runTransaction, decode, hd, rejectWord]

/-- OFFSET[2:0] are the lowest three bits of the header. -/
theorem offsetAligned_headerOffset_iff (h : BitVec 16) :
    offsetAligned (headerOffset h) = true ↔ h.extractLsb' 0 3 = 0#3 := by
  have hlow : (h.extractLsb' 0 13).extractLsb' 0 3 = h.extractLsb' 0 3 := by
    rw [BitVec.extractLsb'_extractLsb'_of_le (by decide)]
  rw [offsetAligned, headerOffset, hlow, beq_iff_eq]

/-- Settles O15, from the transaction of each kind of header; an admitted one decodes to a well-formed instruction. -/
theorem unadmittedHeadersRefused : Obligations.UnadmittedHeadersRefused := by
  intro s h d
  have hlow := offsetAligned_headerOffset_iff h
  refine ⟨fun hz => runTransaction_of_reservedHeader hz d s,
    fun hz ho => runTransaction_of_unalignedHeader hz (Bool.eq_false_iff.2 (mt hlow.1 ho)) d s, fun hz ho => ?_⟩
  have hrun := runTransaction_busHeader (headerDir h) (hlow.2 ho) d s
  rw [busHeader_fields hz] at hrun
  rw [runMove, hrun]
  exact exec_of_wellFormed (by split <;> exact hlow.2 ho) s

end Sys2Proof.Machine

/-! PROOFS. The invariant: it holds at reset, every step keeps it, and no step faults from a state that meets it. -/

namespace Sys2Proof.Machine

/-! ### The results before DONE (10_state.md R28, 70_reset_and_hazards.md R287) -/

/-- No result is valid, and every result register is 0. -/
def noResults (s : State) : Prop :=
  s.resValid = 0 ∧ s.resCrc16 = 0 ∧ s.resCrc32 = 0 ∧ s.resCrc64 = 0 ∧ s.resXxh64 = 0 ∧ s.resXxh128Lo = 0 ∧
    s.resXxh128Hi = 0 ∧ s.resElapsed = 0

theorem noResults_clearResults (s : State) : noResults (clearResults s) := ⟨rfl, rfl, rfl, rfl, rfl, rfl, rfl, rfl⟩

theorem State.Inv.noResults_of_not_done {s : State} (h : s.Inv) (hd : s.engineState ≠ .done) : noResults s :=
  ⟨by_contra fun hv => hd (h.resValidDone hv), h.resultsClear hd⟩

/-- A state that is not BUSY and shows no result meets the invariant where the rules that speak of every state hold. -/
theorem State.Inv.of_not_busy {s : State} (hb : s.engineState ≠ .busy) (hres : noResults s)
    (hmem : Memory.wf s.mem) (herr : s.err = .none ↔ s.engineState ≠ .error)
    (htables : s.tablesValid = true → s.t16 = builtT16 ∧ s.t64 = builtT64)
    (hbackend : s.backend = selectBackend Config.hasHwCrc32) : s.Inv where
  memWf := hmem
  errNone := herr
  resValidDone := fun h => absurd hres.1 h
  resultsClear := fun _ => hres.2
  resultsValid := by
    obtain ⟨-, h16, h32, h64, hxx, hlo, hhi, -⟩ := hres
    exact ⟨fun _ => h16, fun _ => h32, fun _ => h64, fun _ => hxx, fun _ => ⟨hlo, hhi⟩⟩
  busyOp := fun h => absurd h hb
  buildClear := fun h => absurd h hb
  hashRunning := fun h => absurd h hb
  scanFold := fun h => absurd h hb
  scanBytes := fun h => absurd h hb
  tablesBuilt := htables
  backendFixed := hbackend

/-- The invariant does not look at OVERRUN, SRC_ADDR, SRC_LEN, the answer of a read, the progress port, the platform, the
schedule and the count of draws. -/
theorem State.Inv.update_unwatched {s : State} (h : s.Inv) (overrun := s.overrun) (srcAddr := s.srcAddr)
    (srcLen := s.srcLen) (readData := s.readData) (progress := s.progress) (progressEvents := s.progressEvents)
    (unreadable := s.unreadable) (schedule := s.schedule) (draws := s.draws) :
    State.Inv { s with
      overrun := overrun, srcAddr := srcAddr, srcLen := srcLen, readData := readData, progress := progress,
      progressEvents := progressEvents, unreadable := unreadable, schedule := schedule, draws := draws } where
  memWf := h.memWf
  errNone := h.errNone
  resValidDone := h.resValidDone
  resultsClear := h.resultsClear
  resultsValid := h.resultsValid
  busyOp := h.busyOp
  buildClear := h.buildClear
  hashRunning := h.hashRunning
  scanFold := h.scanFold
  scanBytes := h.scanBytes
  tablesBuilt := h.tablesBuilt
  backendFixed := h.backendFixed

/-! ### Reset -/

/-- Settles O48: nothing runs, no result shows and host memory lists nothing. -/
theorem resetMeetsInv : Obligations.ResetMeetsInv :=
  .of_not_busy (by decide) ⟨rfl, rfl, rfl, rfl, rfl, rfl, rfl, rfl⟩ reset_memWf (by decide) (fun h => by cases h) rfl

theorem State.Inv.after_applyReset {s : State} (h : s.Inv) : (applyReset s).Inv :=
  .of_not_busy (by simp) ⟨rfl, rfl, rfl, rfl, rfl, rfl, rfl, rfl⟩ h.memWf (by simp) (by simp) rfl

/-! ### Instructions -/

theorem opBuildTables_ne_opHashStream : opBuildTables ≠ opHashStream := by decide

theorem State.Inv.after_raiseError_clearResults {s : State} (h : s.Inv) {code : ErrorCode} (hcode : code ≠ .none) :
    (raiseError code (clearResults s)).Inv :=
  .of_not_busy (by simp) (noResults_clearResults s) h.memWf (by simp [hcode]) h.tablesBuilt h.backendFixed

theorem State.Inv.after_acceptBuildTables_clearResults {s : State} (h : s.Inv) : (acceptBuildTables (clearResults s)).Inv where
  memWf := h.memWf
  errNone := by simp
  resValidDone := by simp
  resultsClear := fun _ => (noResults_clearResults s).2
  resultsValid := by simp
  busyOp := fun _ => .inl rfl
  buildClear := fun _ _ => rfl
  hashRunning := fun _ hop => absurd hop opBuildTables_ne_opHashStream
  scanFold := fun _ hop => absurd hop opBuildTables_ne_opHashStream
  scanBytes := fun _ hop => absurd hop opBuildTables_ne_opHashStream
  tablesBuilt := by simp
  backendFixed := h.backendFixed

/-- A HASH_STREAM whose checks passed begins with a ByteSource in bounds, the tables it needs and no byte consumed. -/
theorem State.Inv.after_beginHashStream_clearResults {s : State} (h : s.Inv) {req : BitVec 5}
    (hcheck : hashStreamCheck req s = .none) (prog : Bool) : (beginHashStream req prog (clearResults s)).Inv where
  memWf := h.memWf
  errNone := by simp
  resValidDone := by simp
  resultsClear := fun _ => (noResults_clearResults s).2
  resultsValid := by simp
  busyOp := fun _ => .inr rfl
  buildClear := fun _ hop => absurd hop.symm opBuildTables_ne_opHashStream
  hashRunning := by
    intro _ _
    obtain ⟨hlen, hbounds, htables⟩ := (hashStreamCheck_none_iff req s).1 hcheck
    exact ⟨hlen, Nat.zero_le _, ((boundsOk_iff _ _ _).1 hbounds).2, rfl, htables⟩
  scanFold := by simp
  scanBytes := fun _ _ i hi => absurd hi (Nat.not_lt_zero i)
  tablesBuilt := h.tablesBuilt
  backendFixed := h.backendFixed

theorem State.Inv.after_acceptHashStream_clearResults {s : State} (h : s.Inv) (req : BitVec 5) (prog : Bool) :
    (acceptHashStream req prog (clearResults s)).Inv := by
  rcases acceptHashStream_cases req prog (clearResults s) with ⟨hcheck, e⟩ | ⟨code, hcode, -, e⟩
  · rw [e]
    exact h.after_beginHashStream_clearResults hcheck prog
  · rw [e]
    exact h.after_raiseError_clearResults hcode

theorem State.Inv.after_exec {s t : State} (h : s.Inv) {i : Instr} (ht : exec i s = .next t) : t.Inv := by
  rcases exec_cases ht with
    rfl | rfl | ⟨v, rfl⟩ | ⟨-, ⟨v, rfl⟩ | ⟨v, rfl⟩ | rfl | ⟨req, prog, rfl⟩ | rfl⟩
  · exact h
  · exact h.update_unwatched (overrun := true)
  · exact h.update_unwatched (readData := v)
  · exact h.update_unwatched (srcAddr := v)
  · exact h.update_unwatched (srcLen := v)
  · exact h.after_acceptBuildTables_clearResults
  · exact h.after_acceptHashStream_clearResults req prog
  · exact h.after_raiseError_clearResults (by decide)

/-! ### Engine steps -/

theorem State.Inv.err_of_busy {s : State} (h : s.Inv) (hb : s.engineState = .busy) : s.err = .none :=
  h.errNone.2 (by simp [hb])

theorem State.Inv.noResults_of_busy {s : State} (h : s.Inv) (hb : s.engineState = .busy) : noResults s :=
  h.noResults_of_not_done (by simp [hb])

theorem State.Inv.after_buildStep {s : State} (h : s.Inv) (hb : s.engineState = .busy) : (buildStep s).Inv :=
  .of_not_busy (by simp) (h.noResults_of_busy hb) h.memWf (by simp [h.err_of_busy hb]) (fun _ => ⟨rfl, rfl⟩)
    h.backendFixed

/-- N does not wrap before it reaches L_LEN (10_state.md R24). -/
theorem toNat_count_add_one {s : State} (hn : s.count.toNat < s.lLen.toNat) :
    (s.count + 1).toNat = s.count.toNat + 1 := by
  have hlen := s.lLen.isLt
  rw [BitVec.toNat_add]
  exact Nat.mod_eq_of_lt (by simp; omega)

/-- The scan's address does not wrap in a ByteSource that does not. -/
theorem scanAddr_eq_ofNat (s : State) : scanAddr s = BitVec.ofNat 64 (s.lAddr.toNat + s.count.toNat) := by
  rw [BitVec.ofNat_add, BitVec.ofNat_toNat, BitVec.ofNat_toNat, BitVec.setWidth_eq, BitVec.setWidth_eq, scanAddr]

theorem toNat_scanAddr {s : State} (hn : s.count.toNat < s.lLen.toNat)
    (hwrap : s.lAddr.toNat + s.lLen.toNat ≤ addressSpace) : (scanAddr s).toNat = s.lAddr.toNat + s.count.toNat := by
  have hlt : s.lAddr.toNat + s.count.toNat < 2 ^ 64 := by
    unfold addressSpace at hwrap
    omega
  rw [scanAddr_eq_ofNat, BitVec.toNat_ofNat, Nat.mod_eq_of_lt hlt]

theorem scanByte_of_not_mutated {s : State} (h : scanAddr s ∉ s.mutated) :
    scanByte s = Memory.read s.mem (scanAddr s).toNat := if_neg h

/-- The accumulators are those of a scan that has consumed the bytes `bs` (44_dispatcher.md R213, R215). -/
def accumulated (s : State) (bs : List Byte) : Prop :=
  s.acc16 = acc16After s bs ∧ s.acc32 = acc32After s bs ∧ s.acc64 = acc64After s bs ∧ s.accXX = accXXAfter s bs

theorem consumeByte_accumulated {s : State} {bs : List Byte} (h : accumulated s bs) (b : Byte) :
    accumulated (consumeByte b s) (bs ++ [b]) := by
  obtain ⟨h16, h32, h64, hxx⟩ := h
  refine ⟨?_, ?_, ?_, ?_⟩
  · rw [consumeByte_acc16, h16]
    exact (acc16After_append s bs b).symm
  · rw [consumeByte_acc32, h32]
    exact (acc32After_append s bs b).symm
  · rw [consumeByte_acc64, h64]
    exact (acc64After_append s bs b).symm
  · rw [consumeByte_accXX, hxx]
    exact (accXXAfter_append s bs b).symm

theorem length_scanned_consumeByte {s : State} (hn : s.count.toNat < s.lLen.toNat)
    (hlen : s.scanned.length = s.count.toNat) (b : Byte) :
    (consumeByte b s).scanned.length = (consumeByte b s).count.toNat := by
  rw [consumeByte_scanned, consumeByte_count, toNat_count_add_one hn, List.length_append, hlen]
  rfl

/-- A byte read as host memory holds it, unless the host stored to it, keeps the record of the bytes consumed. -/
theorem State.Inv.scanned_append {s : State} (h : s.Inv) (hb : s.engineState = .busy) (hop : s.lOp = opHashStream)
    (hn : s.count.toNat < s.lLen.toNat) {b : Byte}
    (hbyte : scanAddr s ∉ s.mutated → b = Memory.read s.mem (scanAddr s).toNat) {i : Nat} (hi : i < s.count.toNat + 1)
    (hm : BitVec.ofNat 64 (s.lAddr.toNat + i) ∉ s.mutated) :
    (s.scanned ++ [b])[i]? = some (Memory.read s.mem (s.lAddr.toNat + i)) := by
  have hlen := (h.scanFold hb hop).1
  obtain ⟨-, -, hwrap, -⟩ := h.hashRunning hb hop
  rcases Nat.lt_succ_iff_lt_or_eq.1 hi with hold | rfl
  · rw [List.getElem?_append_left (hlen ▸ hold)]
    exact h.scanBytes hb hop i hold hm
  · rw [hbyte ((scanAddr_eq_ofNat s).symm ▸ hm), toNat_scanAddr hn hwrap, ← hlen, List.getElem?_concat_length]

theorem State.Inv.after_consumeByte {s : State} (h : s.Inv) (hb : s.engineState = .busy) (hop : s.lOp = opHashStream)
    (hn : s.count.toNat < s.lLen.toNat) {b : Byte}
    (hbyte : scanAddr s ∉ s.mutated → b = Memory.read s.mem (scanAddr s).toNat) : (consumeByte b s).Inv where
  memWf := h.memWf
  errNone := h.errNone
  resValidDone := h.resValidDone
  resultsClear := h.resultsClear
  resultsValid := h.resultsValid
  busyOp := h.busyOp
  buildClear := h.buildClear
  hashRunning := by
    intro _ _
    obtain ⟨hlen, -, hrest⟩ := h.hashRunning hb hop
    exact ⟨hlen, (toNat_count_add_one hn).trans_le hn, hrest⟩
  scanFold := by
    intro _ _
    obtain ⟨hlen, hacc⟩ := h.scanFold hb hop
    exact ⟨length_scanned_consumeByte hn hlen b, consumeByte_accumulated hacc b⟩
  scanBytes := by
    intro _ _ i hi hm
    rw [consumeByte_count, toNat_count_add_one hn] at hi
    exact h.scanned_append hb hop hn hbyte hi hm
  tablesBuilt := h.tablesBuilt
  backendFixed := h.backendFixed

theorem State.Inv.after_scanStep {s : State} (h : s.Inv) (hb : s.engineState = .busy) (hop : s.lOp = opHashStream)
    (hn : s.count.toNat < s.lLen.toNat) : (scanStep s).Inv := by
  rcases scanStep_cases s with ⟨-, e⟩ | ⟨-, e⟩
  · rw [e]
    have hread : (afterScanRead s).Inv := h.update_unwatched (draws := _)
    exact (hread.after_consumeByte hb hop hn (scanByte_of_not_mutated (s := s))).update_unwatched
      (progress := _) (progressEvents := _)
  · rw [e]
    exact .of_not_busy (by simp) (h.noResults_of_busy hb) h.memWf (by simp) h.tablesBuilt h.backendFixed

section finalizeStepXxh
variable (s : State)

@[simp] theorem finalizeStep_resXxh64 : (finalizeStep s).resXxh64 =
    if s.lTag.getLsbD 3 && s.lReq.getLsbD 3 then xxh64Final s.accXX s.count else s.resXxh64 := rfl
@[simp] theorem finalizeStep_resXxh128Lo : (finalizeStep s).resXxh128Lo =
    if s.lTag.getLsbD 3 && s.lReq.getLsbD 4 then xxh64Final s.accXX s.count else s.resXxh128Lo := rfl
@[simp] theorem finalizeStep_resXxh128Hi : (finalizeStep s).resXxh128Hi =
    if s.lTag.getLsbD 3 && s.lReq.getLsbD 4 then xxh128High s.accXX else s.resXxh128Hi := rfl

end finalizeStepXxh

/-- The finalize step writes a result register only where its RES_VALID bit becomes 1 (44_dispatcher.md R218, R221). -/
theorem State.Inv.after_finalizeStep {s : State} (h : s.Inv) (hb : s.engineState = .busy) : (finalizeStep s).Inv where
  memWf := h.memWf
  errNone := by simp [h.err_of_busy hb]
  resValidDone := fun _ => rfl
  resultsClear := fun hd => absurd rfl hd
  resultsValid := by
    obtain ⟨-, h16, h32, h64, hxx, hlo, hhi, -⟩ := h.noResults_of_busy hb
    refine ⟨fun hv => ?_, fun hv => ?_, fun hv => ?_, fun hv => ?_, fun hv => ⟨?_, ?_⟩⟩ <;>
      rw [finalizeStep_resValid] at hv
    · rw [finalizeStep_resCrc16, hv, h16]
      rfl
    · rw [finalizeStep_resCrc32, hv, h32]
      rfl
    · rw [finalizeStep_resCrc64, hv, h64]
      rfl
    · rw [finalizeStep_resXxh64, hv, Bool.and_false, hxx]
      rfl
    · rw [finalizeStep_resXxh128Lo, hv, Bool.and_false, hlo]
      rfl
    · rw [finalizeStep_resXxh128Hi, hv, Bool.and_false, hhi]
      rfl
  busyOp := fun hd => by simp at hd
  buildClear := fun hd => by simp at hd
  hashRunning := fun hd => by simp at hd
  scanFold := fun hd => by simp at hd
  scanBytes := fun hd => by simp at hd
  tablesBuilt := h.tablesBuilt
  backendFixed := h.backendFixed

theorem State.Inv.after_engineStep {s t : State} (h : s.Inv) (ht : engineStep s = .next t) : t.Inv := by
  rcases engineStep_cases ht with ⟨-, rfl⟩ | ⟨hb, -, rfl⟩ | ⟨hb, hop, hn, rfl⟩ | ⟨hb, -, -, rfl⟩
  · exact h
  · exact h.after_buildStep hb
  · exact h.after_scanStep hb hop hn
  · exact h.after_finalizeStep hb

/-! ### Host stores (20_memory.md R74) -/

/-- A byte of the running ByteSource that no store of the scan has met is not the byte a further store changes. -/
theorem ofNat_ne_of_not_mutated {s : State} {addr : Word} {byte : Byte} {i : Nat} (hb : s.engineState = .busy)
    (hop : s.lOp = opHashStream) (hi : i < s.lLen.toNat)
    (hm : BitVec.ofNat 64 (s.lAddr.toNat + i) ∉ (hostStore addr byte s).mutated) : s.lAddr.toNat + i ≠ addr.toNat := by
  intro e
  rw [mem_mutated_hostStore, e, BitVec.ofNat_toNat, BitVec.setWidth_eq] at hm
  exact hm (.inr ⟨(inRunningSource_iff s addr).2 ⟨hb, hop, by omega, by omega⟩, rfl⟩)

/-- A store leaves the accumulators those of the bytes consumed: of the same bytes, or of those with one drawn anew. -/
theorem hostStore_accumulated {s : State} (h : accumulated s s.scanned) (addr : Word) (byte : Byte) :
    accumulated (hostStore addr byte s) (hostStore addr byte s).scanned := by
  rcases hostStore_cases addr byte s with ⟨-, e⟩ | ⟨-, -, -, e⟩
  · rw [e]
    exact h
  · rw [e]
    exact ⟨rfl, rfl, rfl, rfl⟩

theorem length_scanned_hostStore (addr : Word) (byte : Byte) (s : State) :
    (hostStore addr byte s).scanned.length = s.scanned.length := by
  rcases hostStore_cases addr byte s with ⟨-, e⟩ | ⟨-, -, -, e⟩ <;> simp [e]

/-- A store changes the record of the bytes consumed at most at its own address. -/
theorem hostStore_scanned_getElem? {s : State} {addr : Word} {i : Nat} (hi : s.lAddr.toNat + i ≠ addr.toNat)
    (byte : Byte) : (hostStore addr byte s).scanned[i]? = s.scanned[i]? := by
  rcases hostStore_cases addr byte s with ⟨-, e⟩ | ⟨hsrc, -, -, e⟩
  · rw [e, recordStore_scanned]
  · obtain ⟨-, -, hlo, -⟩ := (inRunningSource_iff s addr).1 hsrc
    have hk : sourceIndex s addr ≠ i := by
      unfold sourceIndex
      omega
    rw [e, redrawByte_scanned, List.getElem?_set_ne hk, recordStore_scanned]

theorem State.Inv.after_hostStore {s : State} (h : s.Inv) (addr : Word) (byte : Byte) : (hostStore addr byte s).Inv where
  memWf := hostStore_memWf addr byte s h.memWf
  errNone := by simpa using h.errNone
  resValidDone := by simpa using h.resValidDone
  resultsClear := by simpa using h.resultsClear
  resultsValid := by simpa using h.resultsValid
  busyOp := by simpa using h.busyOp
  buildClear := by simpa using h.buildClear
  hashRunning := by simpa using h.hashRunning
  scanFold := by
    intro hb hop
    obtain ⟨hlen, hacc⟩ := h.scanFold (by simpa using hb) (by simpa using hop)
    refine ⟨?_, hostStore_accumulated hacc addr byte⟩
    rw [length_scanned_hostStore, hostStore_count, hlen]
  scanBytes := by
    intro hb hop i hi hm
    simp only [hostStore_engineState, hostStore_lOp, hostStore_count, hostStore_lAddr, hostStore_mem] at hb hop hi hm ⊢
    obtain ⟨-, hcount, -⟩ := h.hashRunning hb hop
    have hne := ofNat_ne_of_not_mutated hb hop (by omega) hm
    rw [hostStore_scanned_getElem? hne, Memory.read_write_other _ h.memWf.1 _ _ _ hne]
    exact h.scanBytes hb hop i hi fun hold => hm ((mem_mutated_hostStore addr _ byte s).2 (.inl hold))
  tablesBuilt := by simpa using h.tablesBuilt
  backendFixed := by simpa using h.backendFixed

/-! ### Every step -/

theorem State.Inv.after_runMove {s t : State} (h : s.Inv) {m : Move} (ht : runMove m s = .next t) : t.Inv := by
  rcases runMove_cases ht with ⟨-, i, hi⟩ | ⟨-, he⟩ | ⟨addr, byte, -, -, rfl⟩ | ⟨regions, -, rfl⟩
  · exact h.after_exec hi
  · exact h.after_engineStep he
  · exact h.after_hostStore addr byte
  · exact h.update_unwatched (unreadable := regions)

/-- Settles O49, case by case over what a step can do. -/
theorem stepKeepsInv : Obligations.StepKeepsInv := by
  intro s t h ht
  have hrest : ∀ rest, State.Inv { s with schedule := rest } := fun rest => h.update_unwatched (schedule := rest)
  rcases step_cases ht with ⟨-, he⟩ | ⟨m, rest, -, rfl⟩ | ⟨m, rest, -, hm⟩
  · exact h.after_engineStep he
  · exact (hrest rest).after_applyReset
  · exact (hrest rest).after_runMove hm

/-! ### No fault (log 15) -/

/-- A running HASH_STREAM's step is a scan step or the finalize step (44_dispatcher.md R214). -/
theorem engineStep_of_hashing {s : State} (hb : s.engineState = .busy) (hop : s.lOp = opHashStream) :
    engineStep s = .next (if s.count.toNat < s.lLen.toNat then scanStep s else finalizeStep s) := by
  simp [engineStep, hb, hop, opBuildTables_ne_opHashStream.symm]

/-- An engine that is BUSY with a command has a step. -/
theorem engineStep_ne_fault {s : State} (hop : s.engineState = .busy → s.lOp = opBuildTables ∨ s.lOp = opHashStream)
    (f : Fault) : engineStep s ≠ .fault f := by
  by_cases hb : s.engineState = .busy
  · rcases hop hb with hop | hop
    · simp [engineStep_of_building hb hop]
    · simp [engineStep_of_hashing hb hop]
  · simp [engineStep_of_not_busy hb]

theorem runMove_ne_fault {s : State} (hop : s.engineState = .busy → s.lOp = opBuildTables ∨ s.lOp = opHashStream)
    (m : Move) (f : Fault) : runMove m s ≠ .fault f := by
  cases m with
  | transaction w => exact runTransaction_ne_fault w s f
  | access a =>
    simp only [runMove, runAccess]
    split
    · exact runTransaction_ne_fault _ s f
    · simp
  | engine => exact engineStep_ne_fault hop f
  | store addr byte =>
    simp only [runMove, runStore]
    split <;> simp
  | setUnreadable regions => simp [runMove]

/-- Settles O50: the only fault is that of a BUSY engine with no command, which the invariant rules out. -/
theorem invRulesOutFault : Obligations.InvRulesOutFault := by
  intro s f h
  unfold step
  split
  · exact engineStep_ne_fault h.busyOp f
  next slot rest hs =>
    unfold runSlot
    split
    · simp
    · exact runMove_ne_fault (s := { s with schedule := rest }) h.busyOp slot.move f

end Sys2Proof.Machine

/-! PROOFS. The lookup tables and the CRC steps: the shift/conditional-XOR step is linear and moves a value whose leaving
bits are 0 unchanged, so a byte's eight steps split into a table entry and a shift (40_table_generator.md,
41_crc16_crc64.md, 42_crc32.md). -/

namespace Sys2Proof.Machine

/-! ### Repetition -/

theorem applyTimes_succ {α : Type} (f : α → α) (n : Nat) (x : α) : applyTimes f (n + 1) x = applyTimes f n (f x) := rfl

/-- A linear step taken n times is linear. -/
theorem applyTimes_xor {w : Nat} {f : BitVec w → BitVec w} (hf : ∀ x y, f (x ^^^ y) = f x ^^^ f y) (n : Nat)
    (x y : BitVec w) : applyTimes f n (x ^^^ y) = applyTimes f n x ^^^ applyTimes f n y := by
  induction n generalizing x y with
  | zero => rfl
  | succ n ih => rw [applyTimes_succ, hf, ih, applyTimes_succ, applyTimes_succ]

/-! ### The shift/conditional-XOR step, MSB first (40_table_generator.md R131) -/

theorem polyStep_eq_xor {w : Nat} (poly c : BitVec w) : polyStep poly c = (c <<< 1) ^^^ (if c.msb then poly else 0) := by
  unfold polyStep
  split <;> simp

/-- Two conditional XORs of one value make one, on the XOR of the conditions. -/
theorem xor_ite_xor {w : Nat} (p q : Bool) (poly x y : BitVec w) :
    (x ^^^ y) ^^^ (if p ^^ q then poly else 0) = (x ^^^ if p then poly else 0) ^^^ (y ^^^ if q then poly else 0) := by
  have hpoly : (if p ^^ q then poly else 0) = (if p then poly else 0) ^^^ (if q then poly else 0) := by
    cases p <;> cases q <;> simp
  rw [hpoly]
  ac_rfl

theorem polyStep_xor {w : Nat} (poly x y : BitVec w) : polyStep poly (x ^^^ y) = polyStep poly x ^^^ polyStep poly y := by
  simp only [polyStep_eq_xor, BitVec.msb_xor, BitVec.shiftLeft_xor_distrib, xor_ite_xor]

theorem applyTimes_polyStep_xor {w : Nat} (poly : BitVec w) (n : Nat) (x y : BitVec w) :
    applyTimes (polyStep poly) n (x ^^^ y) = applyTimes (polyStep poly) n x ^^^ applyTimes (polyStep poly) n y :=
  applyTimes_xor (polyStep_xor poly) n x y

/-- A value whose top n bits are 0 is only shifted by n steps. -/
theorem applyTimes_polyStep_of_top_zero {w : Nat} (poly : BitVec w) {n : Nat} {x : BitVec w}
    (hx : ∀ i, w ≤ i + n → x.getLsbD i = false) : applyTimes (polyStep poly) n x = x <<< n := by
  induction n generalizing x with
  | zero => simp [applyTimes]
  | succ n ih =>
    have hmsb : x.msb = false := by
      rw [BitVec.msb_eq_getLsbD_last]
      exact hx (w - 1) (by omega)
    have hstep : polyStep poly x = x <<< 1 := by simp [polyStep, hmsb]
    have hnext : ∀ i, w ≤ i + n → (x <<< 1).getLsbD i = false := by
      intro i hi
      rw [BitVec.getLsbD_shiftLeft, hx (i - 1) (by omega), Bool.and_false]
    rw [applyTimes_succ, hstep, ih hnext, ← BitVec.shiftLeft_add, Nat.add_comm]

theorem tableEntry_xor {w : Nat} (poly : BitVec w) (a b : Byte) :
    tableEntry poly (a ^^^ b) = tableEntry poly a ^^^ tableEntry poly b := by
  rw [tableEntry, BitVec.setWidth_xor, BitVec.shiftLeft_xor_distrib, applyTimes_polyStep_xor]
  rfl

/-- Settles O27: an entry is eight steps, each of them linear. -/
theorem tablesAreLinear : Obligations.TablesAreLinear := by
  intro a b
  simp only [tableAt_builtT16, tableAt_builtT64]
  exact ⟨tableEntry_xor poly16 a b, tableEntry_xor poly64 a b⟩

/-- A register with a byte brought in at its top is its table index at the top and the rest of the register below. -/
theorem xor_byte_split {w : Nat} (hw : 8 ≤ w) (acc : BitVec w) (b : Byte) :
    acc ^^^ (b.setWidth w <<< (w - 8)) =
      ((((acc >>> (w - 8)) ^^^ b.setWidth w).setWidth 8).setWidth w <<< (w - 8)) ^^^ ((acc <<< 8) >>> 8) := by
  ext i hi
  by_cases h : i < w - 8
  · have hin : 8 + i < w := by omega
    simp [h, hin]
  · have hout : ¬ 8 + i < w := by omega
    have hback : w - 8 + (i - (w - 8)) = i := by omega
    have hbyte : i - (w - 8) < 8 := by omega
    have hacc := BitVec.getLsbD_eq_getElem (x := acc) hi
    have hwide : i - (w - 8) < w := by omega
    simp [h, hout, hback, hbyte, hwide, hacc]

/-- The table form of a byte's eight steps. -/
theorem applyTimes_polyStep_byte {w : Nat} (hw : 8 ≤ w) (poly acc : BitVec w) (b : Byte) :
    applyTimes (polyStep poly) 8 (acc ^^^ (b.setWidth w <<< (w - 8))) =
      tableEntry poly (((acc >>> (w - 8)) ^^^ b.setWidth w).setWidth 8) ^^^ (acc <<< 8) := by
  have htop : ∀ i, w ≤ i + 8 → ((acc <<< 8) >>> 8).getLsbD i = false := by
    intro i hi
    rw [BitVec.getLsbD_ushiftRight, BitVec.getLsbD_of_ge _ _ (by omega)]
  have hshift : ((acc <<< 8) >>> 8) <<< 8 = acc <<< 8 := by
    ext i hi
    by_cases h : i < 8
    · simp [h]
    · have hin : 8 + (i - 8) < w := by omega
      simp [h, hin]
  rw [xor_byte_split hw, applyTimes_polyStep_xor, applyTimes_polyStep_of_top_zero poly htop, hshift]
  rfl

/-- The bitwise form's step reads the top bit by its number (41_crc16_crc64.md R154). -/
theorem polyStep_poly16 : polyStep poly16 = fun c => if c.getLsbD 15 then (c <<< 1) ^^^ 0x1021#16 else c <<< 1 := by
  funext c
  rw [polyStep, BitVec.msb_eq_getLsbD_last]
  rfl

/-- The bitwise form's step reads the top bit by its number (41_crc16_crc64.md R159). -/
theorem polyStep_poly64 :
    polyStep poly64 = fun c => if c.getLsbD 63 then (c <<< 1) ^^^ 0x42F0E1EBA9EA3693#64 else c <<< 1 := by
  funext c
  rw [polyStep, BitVec.msb_eq_getLsbD_last]
  rfl

/-- Settles O28, from the table form of a byte's eight steps in 16 bits. -/
theorem crc16StepIsBitwise : Obligations.Crc16StepIsBitwise := by
  intro acc b
  rw [crc16Bitwise, ← polyStep_poly16, crc16Step, tableAt_builtT16]
  exact (applyTimes_polyStep_byte (show 8 ≤ 16 by decide) poly16 acc b).symm

/-- Settles O29, from the table form of a byte's eight steps in 64 bits. -/
theorem crc64StepIsBitwise : Obligations.Crc64StepIsBitwise := by
  intro acc b
  rw [crc64Bitwise, ← polyStep_poly64, crc64Step, tableAt_builtT64, BitVec.xor_comm]
  exact (applyTimes_polyStep_byte (by decide) poly64 acc b).symm

/-! ### The reflected step, LSB first (42_crc32.md R171) -/

theorem reflectedStep_eq_xor (c : BitVec 32) :
    reflectedStep c = (c >>> 1) ^^^ (if c.getLsbD 0 then rpoly32 else 0) := by
  unfold reflectedStep
  split <;> simp

theorem reflectedStep_xor (x y : BitVec 32) : reflectedStep (x ^^^ y) = reflectedStep x ^^^ reflectedStep y := by
  simp only [reflectedStep_eq_xor, BitVec.getLsbD_xor, BitVec.ushiftRight_xor_distrib, xor_ite_xor]

/-- A value whose low n bits are 0 is only shifted by n steps. -/
theorem applyTimes_reflectedStep_of_low_zero {n : Nat} {x : BitVec 32} (hx : ∀ i < n, x.getLsbD i = false) :
    applyTimes reflectedStep n x = x >>> n := by
  induction n generalizing x with
  | zero => simp [applyTimes]
  | succ n ih =>
    have hstep : reflectedStep x = x >>> 1 := by simp only [reflectedStep, hx 0 (by omega)]; rfl
    have hnext : ∀ i < n, (x >>> 1).getLsbD i = false := by
      intro i hi
      rw [BitVec.getLsbD_ushiftRight]
      exact hx (1 + i) (by omega)
    rw [applyTimes_succ, hstep, ih hnext, ← BitVec.shiftRight_add, Nat.add_comm]

/-- A register with a byte brought in at its low end is its table index there and the rest of the register above. -/
theorem xor_low_byte_split (c : BitVec 32) (b : Byte) :
    c ^^^ b.setWidth 32 = ((c ^^^ b.setWidth 32).setWidth 8).setWidth 32 ^^^ ((c >>> 8) <<< 8) := by
  ext i hi
  have hc := BitVec.getLsbD_eq_getElem (x := c) hi
  by_cases h : i < 8
  · simp [h, hc]
  · have hback : 8 + (i - 8) = i := by omega
    simp [h, hback, hc, Bool.xor_comm]

/-- Settles O30: the index takes the eight steps of its table entry, the rest of the register is shifted. -/
theorem crc32TableFormIsBitwise : Obligations.Crc32TableFormIsBitwise := by
  intro c b
  have hlow : ∀ i < 8, ((c >>> 8) <<< 8).getLsbD i = false := by
    intro i hi
    simp [hi]
  have hshift : ((c >>> 8) <<< 8) >>> 8 = c >>> 8 := by
    ext i hi
    simpa using fun h => c.lt_of_getLsbD h
  rw [crc32Byte, xor_low_byte_split, applyTimes_xor reflectedStep_xor, applyTimes_reflectedStep_of_low_zero hlow, hshift,
    crc32ByteTable, t32, crc32Byte, show (0 : BitVec 32) = 0#32 from rfl, BitVec.zero_xor]

theorem crc32HwScan_eq_foldl (c : BitVec 32) (bs : List Byte) : crc32HwScan c bs = bs.foldl crc32Byte c := by
  fun_induction crc32HwScan c bs with
  | case1 c w0 w1 w2 w3 w4 w5 w6 w7 rest ih =>
    rw [ih]
    simp only [crc32HwWord, List.foldl_cons]
  | case2 c rest => rfl

/-- Settles O31: a word operation is its eight byte operations in order. -/
theorem hardwareScanEqualsSoftwareScan : Obligations.HardwareScanEqualsSoftwareScan := crc32HwScan_eq_foldl

/-! ### Known values (95_test_vectors.md) -/

/-- Settles O26: each entry as the table generator computes it. -/
theorem tableEntriesKnown : Obligations.TableEntriesKnown := by
  unfold Obligations.TableEntriesKnown
  simp only [tableAt_builtT16, tableAt_builtT64]
  decide

/-- Settles O32: the five functions on the nine bytes, the CRCs in their bitwise forms. -/
theorem digestCheckValues : Obligations.DigestCheckValues := by
  have h16 : crc16Step builtT16 = crc16Bitwise := funext₂ crc16StepIsBitwise
  have h64 : crc64Step builtT64 = crc64Bitwise := funext₂ crc64StepIsBitwise
  unfold Obligations.DigestCheckValues
  rw [crc16Of, crc64Of, h16, h64]
  decide +kernel

end Sys2Proof.Machine

/-! PROOFS. What a step leaves alone, how STATE moves, and BUILD_TABLES from its acceptance to DONE (10_state.md R23, R37;
20_memory.md R80; 40_table_generator.md R134). -/

namespace Sys2Proof.Machine

/-! ### Fields that neither an instruction nor an engine step changes -/

/-- None of the parts that instructions and engine steps are made of changes the field `f`. -/
structure Untouched {α : Type} (f : State → α) : Prop where
  clearResults : ∀ s, f (clearResults s) = f s
  raiseError : ∀ code s, f (raiseError code s) = f s
  setOverrun : ∀ s, f (setOverrun s) = f s
  readData : ∀ s v, f { s with readData := v } = f s
  srcAddr : ∀ s v, f { s with srcAddr := v } = f s
  srcLen : ∀ s v, f { s with srcLen := v } = f s
  acceptBuildTables : ∀ s, f (acceptBuildTables s) = f s
  beginHashStream : ∀ req prog s, f (beginHashStream req prog s) = f s
  buildStep : ∀ s, f (buildStep s) = f s
  afterScanRead : ∀ s, f (afterScanRead s) = f s
  consumeByte : ∀ b s, f (consumeByte b s) = f s
  emitProgress : ∀ s, f (emitProgress s) = f s
  finalizeStep : ∀ s, f (finalizeStep s) = f s
  unreadable : ∀ s regions, f { s with unreadable := regions } = f s
  schedule : ∀ s rest, f { s with schedule := rest } = f s

theorem untouched_backend : Untouched State.backend := by constructor <;> intros <;> rfl

theorem untouched_mem : Untouched State.mem := by constructor <;> intros <;> rfl

section untouched
variable {α : Type} {f : State → α} (hf : Untouched f)
include hf

theorem Untouched.acceptHashStream (req : BitVec 5) (prog : Bool) (s : State) : f (acceptHashStream req prog s) = f s := by
  rcases acceptHashStream_cases req prog s with ⟨-, e⟩ | ⟨code, -, -, e⟩
  · rw [e, hf.beginHashStream]
  · rw [e, hf.raiseError]

theorem Untouched.exec {i : Instr} {s t : State} (h : exec i s = .next t) : f t = f s := by
  rcases exec_cases h with
    rfl | rfl | ⟨v, rfl⟩ | ⟨-, ⟨v, rfl⟩ | ⟨v, rfl⟩ | rfl | ⟨req, prog, rfl⟩ | rfl⟩
  · rfl
  · exact hf.setOverrun s
  · exact hf.readData s v
  · exact hf.srcAddr s v
  · exact hf.srcLen s v
  · rw [hf.acceptBuildTables, hf.clearResults]
  · rw [hf.acceptHashStream, hf.clearResults]
  · rw [hf.raiseError, hf.clearResults]

theorem Untouched.engineStep {s t : State} (h : engineStep s = .next t) : f t = f s :=
  engineStep_field f hf.buildStep (scanStep_field f hf.afterScanRead hf.consumeByte hf.emitProgress hf.raiseError)
    hf.finalizeStep h

/-- What a host store makes of the field is the only change a move can make to it. -/
theorem Untouched.runMove {m : Move} {s t : State} (h : runMove m s = .next t) :
    f t = f s ∨ ∃ addr byte, m = .store addr byte ∧ t = hostStore addr byte s := by
  rcases runMove_cases h with ⟨-, i, hi⟩ | ⟨-, he⟩ | ⟨addr, byte, hm, -, ht⟩ | ⟨regions, -, rfl⟩
  · exact .inl (hf.exec hi)
  · exact .inl (hf.engineStep he)
  · exact .inr ⟨addr, byte, hm, ht⟩
  · exact .inl (hf.unreadable s regions)

/-- A reset or a host store are the only steps that can change the field. -/
theorem Untouched.step {s t : State} (h : step s = .next t) :
    f t = f s ∨ (∃ rest, t = applyReset { s with schedule := rest }) ∨
    (storeNext s = true ∧ ∃ addr byte rest, t = hostStore addr byte { s with schedule := rest }) := by
  rcases step_cases h with ⟨-, he⟩ | ⟨m, rest, -, ht⟩ | ⟨m, rest, hs, hm⟩
  · exact .inl (hf.engineStep he)
  · exact .inr (.inl ⟨rest, ht⟩)
  · rcases hf.runMove hm with hkeep | ⟨addr, byte, rfl, ht⟩
    · exact .inl (hkeep.trans (hf.schedule s rest))
    · exact .inr (.inr ⟨by simp [storeNext, hs], addr, byte, rest, ht⟩)

end untouched

theorem step_backend_selected {s t : State} (h : step s = .next t) (hs : s.backend = selectBackend Config.hasHwCrc32) :
    t.backend = selectBackend Config.hasHwCrc32 := by
  rcases untouched_backend.step h with hkeep | ⟨rest, rfl⟩ | ⟨-, addr, byte, rest, rfl⟩
  · exact hkeep.trans hs
  · rfl
  · exact (hostStore_backend addr byte _).trans hs

/-- Settles O17: CAPS shows BACKEND, which no step but a reset changes. -/
theorem capsIsConstant : Obligations.CapsIsConstant := by
  refine ⟨fun s hs => ?_, rfl, fun s t => step_backend_selected, fun s d => exec_regWrite_regOffset .caps d s⟩
  rw [← capsWord_of_backend_selected hs]
  exact exec_regRead_regOffset .caps s

/-- Settles O52: the moves that are no store leave host memory alone, and so does a reset. -/
theorem hostMemoryChangesOnlyByStores : Obligations.HostMemoryChangesOnlyByStores := by
  intro s t h hstore a
  rcases untouched_mem.step h with hkeep | ⟨rest, rfl⟩ | ⟨hs, -⟩
  · rw [hkeep]
  · rfl
  · cases hstore.symm.trans hs

/-- Settles O11, from the definition of a reset, which takes the place of the move. -/
theorem resetTakesEffectInsteadOfMove : Obligations.ResetTakesEffectInsteadOfMove := by
  intro s m rest hs
  have ht : step s = .next (applyReset { s with schedule := rest }) := by
    simp only [step, hs]
    rfl
  exact ⟨_, ht, rfl, rfl, rfl, rfl, rfl, rfl, rfl, rfl, rfl, rfl, rfl, rfl, rfl, rfl, rfl, rfl, rfl, rfl, rfl, rfl⟩

/-! ### The transitions of STATE (10_state.md R23) -/

/-- An acceptance leads to BUSY or ERROR. -/
theorem acceptHashStream_engineState (req : BitVec 5) (prog : Bool) (s : State) :
    (acceptHashStream req prog s).engineState = .busy ∨ (acceptHashStream req prog s).engineState = .error := by
  rcases acceptHashStream_cases req prog s with ⟨-, e⟩ | ⟨code, -, -, e⟩
  · exact .inl (by simp [e])
  · exact .inr (by simp [e])

theorem exec_engineState {i : Instr} {s t : State} (h : exec i s = .next t) :
    t.engineState = s.engineState ∨ (s.engineState ≠ .busy ∧ (t.engineState = .busy ∨ t.engineState = .error)) := by
  rcases exec_cases h with
    rfl | rfl | ⟨v, rfl⟩ | ⟨hb, ⟨v, rfl⟩ | ⟨v, rfl⟩ | rfl | ⟨req, prog, rfl⟩ | rfl⟩
  · exact .inl rfl
  · exact .inl rfl
  · exact .inl rfl
  · exact .inl rfl
  · exact .inl rfl
  · exact .inr ⟨hb, .inl rfl⟩
  · exact .inr ⟨hb, acceptHashStream_engineState req prog _⟩
  · exact .inr ⟨hb, .inr rfl⟩

/-- The next byte of the scan lies in a region that can not be read. -/
def scanByteUnreadable (s : State) : Prop :=
  ∃ r ∈ s.unreadable, r.base ≤ (scanAddr s).toNat ∧ (scanAddr s).toNat < r.base + r.size

theorem scanReadable_iff (s : State) : scanReadable s = true ↔ ¬ scanByteUnreadable s := by
  rw [scanReadable, readable_iff, everyByteReadable, scanByteUnreadable]
  constructor
  · rintro h ⟨r, hr, hlo, hhi⟩
    exact h _ le_rfl (Nat.lt_succ_self _) r hr ⟨hlo, hhi⟩
  · intro h x hx hlt r hr hin
    obtain rfl : x = (scanAddr s).toNat := by omega
    exact h ⟨r, hr, hin⟩

theorem engineStep_engineState {s t : State} (h : engineStep s = .next t) :
    t.engineState = s.engineState ∨ (s.engineState = .busy ∧ t.engineState = .done) ∨
    (s.engineState = .busy ∧ s.lOp = opHashStream ∧ t.engineState = .error ∧ t.err = .inputUnavailable ∧
      scanByteUnreadable s) := by
  rcases engineStep_cases h with ⟨-, rfl⟩ | ⟨hb, -, rfl⟩ | ⟨hb, hop, -, rfl⟩ | ⟨hb, -, -, rfl⟩
  · exact .inl rfl
  · exact .inr (.inl ⟨hb, rfl⟩)
  · rcases scanStep_cases s with ⟨-, e⟩ | ⟨hr, e⟩
    · exact .inl (by simp [e])
    · refine .inr (.inr ⟨hb, hop, by simp [e], by simp [e], ?_⟩)
      exact not_not.1 fun hn => Bool.false_ne_true (hr.symm.trans ((scanReadable_iff s).2 hn))
  · exact .inr (.inl ⟨hb, rfl⟩)

/-- Settles O51, from how an instruction, an engine step and a reset move STATE. -/
theorem stateTransitionsAllowed : Obligations.StateTransitionsAllowed := by
  intro s t h
  rcases step_cases h with ⟨-, he⟩ | ⟨m, rest, hs, rfl⟩ | ⟨m, rest, hs, hm⟩
  · exact (engineStep_engineState he).imp_right fun hbusy => .inr (.inr hbusy)
  · exact .inr (.inl ⟨by simp [resetNext, hs], rfl⟩)
  · rcases runMove_cases hm with ⟨hacc, i, hi⟩ | ⟨-, he⟩ | ⟨addr, byte, -, -, rfl⟩ | ⟨regions, -, rfl⟩
    · have hhost : hostAccessNext s = true := by
        rcases hacc with ⟨w, rfl⟩ | ⟨a, rfl⟩ <;> simp [hostAccessNext, hs]
      exact (exec_engineState hi).imp_right fun hmoved => .inr (.inl ⟨hhost, hmoved⟩)
    · exact (engineStep_engineState he).imp_right fun hbusy => .inr (.inr hbusy)
    · exact .inl (hostStore_engineState addr byte _)
    · exact .inl rfl

/-! ### BUILD_TABLES (40_table_generator.md R134) -/

/-- Settles O22: the acceptance on the cleared state, written out. -/
theorem buildTablesAccepted : Obligations.BuildTablesAccepted := fun _ hb => exec_buildTables_of_not_busy hb

/-- What the table windows show after the build step (20_memory.md R65). -/
theorem exec_regRead_tables_of_built {s : State} (hv : s.tablesValid = true) (h16 : s.t16 = builtT16)
    (h64 : s.t64 = builtT64) (b : BitVec 8) :
    exec (.regRead (BitVec.ofNat 13 (0x800 + 8 * b.toNat))) s =
      .next { s with readData := BitVec.ofNat 64 (tableEntry poly16 b).toNat } ∧
    exec (.regRead (BitVec.ofNat 13 (0x1000 + 8 * b.toNat))) s = .next { s with readData := tableEntry poly64 b } := by
  constructor
  · rw [← regOffset_crc16Table, exec_regRead_regOffset, ← tableAt_builtT16, BitVec.ofNat_toNat]
    simp [readReg, hv, h16]
  · rw [← regOffset_crc64Table, exec_regRead_regOffset, ← tableAt_builtT64]
    simp [readReg, hv, h64]

/-- Settles O24: the acceptance, the build step as the next step, and the windows on the built tables. -/
theorem buildTablesRunsToDone : Obligations.BuildTablesRunsToDone := by
  intro s hb hs
  have hstep : step (acceptBuildTables (clearResults s)) = .next (buildStep (acceptBuildTables (clearResults s))) :=
    (step_of_schedule_nil (s := acceptBuildTables (clearResults s)) hs).trans (engineStep_of_building rfl rfl)
  exact ⟨_, _, exec_buildTables_of_not_busy hb, rfl, rfl, hstep, rfl, rfl, rfl, rfl, rfl, rfl, rfl, rfl, rfl, rfl, rfl,
    rfl, rfl, rfl, rfl, rfl, rfl, exec_regRead_tables_of_built rfl rfl rfl⟩

end Sys2Proof.Machine

/-! PROOFS. HASH_STREAM step by step: the acceptance, a scan step, the finalize step and its digests, and what an engine step
does not look at (44_dispatcher.md R213 to R221). -/

namespace Sys2Proof.Machine

/-! ### The acceptance (44_dispatcher.md R213) -/

theorem needsTables_iff (req : BitVec 5) : needsTables req = true ↔ req.getLsbD 0 = true ∨ req.getLsbD 2 = true :=
  Bool.or_eq_true_iff

/-- The checks as the statements of the runs have them. -/
theorem hashStreamCheck_of_source {s : State} {req : BitVec 5} (hlen : s.srcLen ≠ 0) (hsrc : Claims.sourceInBounds s)
    (ht : req.getLsbD 0 = true ∨ req.getLsbD 2 = true → s.tablesValid = true) : hashStreamCheck req s = .none :=
  (hashStreamCheck_none_iff req s).2
    ⟨hlen, (boundsOk_iff_sourceInBounds s).2 hsrc, fun hreq => ht ((needsTables_iff req).1 hreq)⟩

/-- Settles O33: the checks pass, and the acceptance on the cleared state is written out. -/
theorem hashStreamAccepted : Obligations.HashStreamAccepted := by
  intro s req prog hb hlen hsrc ht
  rw [← routineTagsCollapse.1 req]
  exact exec_hashStream_of_passed hb (hashStreamCheck_of_source hlen hsrc ht) prog

/-! ### A scan step (44_dispatcher.md R215) -/

theorem engineStep_of_scanning {s : State} (hb : s.engineState = .busy) (hop : s.lOp = opHashStream)
    (hn : s.count.toNat < s.lLen.toNat) : engineStep s = .next (scanStep s) := by
  rw [engineStep_of_hashing hb hop, if_pos hn]

theorem engineStep_of_scanned {s : State} (hb : s.engineState = .busy) (hop : s.lOp = opHashStream)
    (hn : s.count = s.lLen) : engineStep s = .next (finalizeStep s) := by
  rw [engineStep_of_hashing hb hop, if_neg (by simp [hn])]

theorem scanStep_of_unreadable {s : State} (h : scanByteUnreadable s) : scanStep s = raiseError .inputUnavailable s :=
  if_neg (mt (scanReadable_iff s).1 (not_not.2 h))

theorem scanStep_of_readable {s : State} (h : ¬ scanByteUnreadable s) :
    scanStep s = emitProgress (consumeByte (scanByte s) (afterScanRead s)) := if_pos ((scanReadable_iff s).2 h)

/-- `rotl64` is the library's rotation (00_scope.md R8). -/
theorem rotl64_eq_rotateLeft (x : Word) {r : Nat} (hr : r < 64) : rotl64 x r = x.rotateLeft r := by
  rw [rotl64, BitVec.rotateLeft_def, Nat.mod_eq_of_lt hr]

theorem xxhMix_eq (acc : Word) (b : Byte) :
    xxhMix acc b = (acc ^^^ (b.setWidth 64 * prime5)).rotateLeft 11 * prime1 := by
  rw [xxhMix, rotl64_eq_rotateLeft _ (by decide)]

/-- Between 1 and L the progress points are the multiples of S, and L (44_dispatcher.md R222). -/
theorem progressPoint_iff {n len : Nat} (h1 : 1 ≤ n) (hn : n ≤ len) :
    progressPoint n len = true ↔ n % progressStride len = 0 ∨ n = len := by
  simp [progressPoint, h1, hn]

/-- When a scan step's progress event is due. -/
theorem progressDue_iff {s : State} (h1 : 1 ≤ s.count.toNat) (hn : s.count.toNat ≤ s.lLen.toNat) :
    progressDue s = true ↔
      s.lProg = true ∧ (s.count.toNat % progressStride s.lLen.toNat = 0 ∨ s.count = s.lLen) := by
  rw [progressDue, Bool.and_eq_true, progressPoint_iff h1 hn, BitVec.toNat_inj]

theorem emitProgress_eq {s : State} {due : Prop} [Decidable due] (h : progressDue s = true ↔ due) :
    emitProgress s = { s with
      progress := if due then s.count else s.progress,
      progressEvents := if due then s.progressEvents ++ [⟨s.count, s.lLen⟩] else s.progressEvents } := by
  simp only [emitProgress, h]

/-- Settles O36: an unreadable byte raises its error, and a readable one is consumed, with the event where it is due. -/
theorem scanStepEffect : Obligations.ScanStepEffect := by
  intro s hb hop hn a b n point
  rw [engineStep_of_scanning hb hop hn]
  refine ⟨fun hun => congrArg _ (scanStep_of_unreadable hun), fun hread => ?_⟩
  have hcount : n.toNat = s.count.toNat + 1 := toNat_count_add_one hn
  have hdue : progressDue (consumeByte (scanByte s) (afterScanRead s)) = true ↔ point := by
    refine progressDue_iff (s := consumeByte (scanByte s) (afterScanRead s)) ?_ ?_
    · exact hcount ▸ Nat.succ_pos _
    · exact hcount.trans_le hn
  rw [scanStep_of_readable hread, emitProgress_eq hdue, consumeByte, xxhMix_eq, crc32Step_eq]
  rfl

/-- Settles O37: the unreadable byte raises its error, and the engine waits after it. -/
theorem midScanFailureEndsCommand : Obligations.MidScanFailureEndsCommand := by
  intro s r hb hop hn hr hlo hhi
  refine ⟨?_, engineStep_of_not_busy (by simp)⟩
  rw [engineStep_of_scanning hb hop hn, scanStep_of_unreadable ⟨r, hr, hlo, hhi⟩]
  rfl

/-! ### The finalize step (44_dispatcher.md R218) -/

theorem xxh128High_eq (raw : Word) : xxh128High raw = (raw * prime1).rotateLeft 31 ^^^ prime4 := by
  rw [xxh128High, rotl64_eq_rotateLeft _ (by decide)]

/-- Settles O38: the finalize step with N = L_LEN, its formulas written out. -/
theorem finalizeStepEffect : Obligations.FinalizeStepEffect := by
  intro s hb hop hn a0 a1 a2 a3 a4 x64
  refine ⟨drawAt s 0, ?_⟩
  rw [engineStep_of_scanned hb hop hn, finalizeStep, xxh128High_eq, hn]
  simp only [Bool.and_eq_true]
  rfl

/-! ### The digests (43_xxhash.md R197, 44_dispatcher.md R218 to R221) -/

/-- The values of the six result registers. -/
structure Digests where
  crc16 : BitVec 16
  crc32 : BitVec 32
  crc64 : Word
  xxh64 : Word
  xxh128Lo : Word
  xxh128Hi : Word

/-- What the result registers hold. -/
def resultsOf (s : State) : Digests where
  crc16 := s.resCrc16
  crc32 := s.resCrc32
  crc64 := s.resCrc64
  xxh64 := s.resXxh64
  xxh128Lo := s.resXxh128Lo
  xxh128Hi := s.resXxh128Hi

/-- The digests of the bytes by the given tables, and 0 for what is not requested. -/
def digestsOf (t16 : Vector (BitVec 16) 256) (t64 : Vector Word 256) (req : BitVec 5) (bs : List Byte) : Digests where
  crc16 := if req.getLsbD 0 then bs.foldl (crc16Step t16) crc16Init else 0
  crc32 := if req.getLsbD 1 then crc32Of bs else 0
  crc64 := if req.getLsbD 2 then bs.foldl (crc64Step t64) crc64Init else 0
  xxh64 := if req.getLsbD 3 then xxh64Of bs else 0
  xxh128Lo := if req.getLsbD 4 then xxh64Of bs else 0
  xxh128Hi := if req.getLsbD 4 then xxh128HighOf bs else 0

/-- XXH128 adds XXH64 to the routine, which keeps every other bit of the request (30_encoding.md R95). -/
theorem getLsbD_routineTag (req : BitVec 5) :
    (routineTag req).getLsbD 0 = req.getLsbD 0 ∧ (routineTag req).getLsbD 1 = req.getLsbD 1 ∧
    (routineTag req).getLsbD 2 = req.getLsbD 2 ∧ (routineTag req).getLsbD 3 = (req.getLsbD 3 || req.getLsbD 4) := by
  revert req
  decide

/-- The finalize step writes the digests of the bytes the scan has consumed. -/
theorem resultsOf_finalizeStep {s : State} {bs : List Byte} (hres : noResults s) (htag : s.lTag = routineTag s.lReq)
    (hacc : accumulated s bs) (hn : s.count = BitVec.ofNat 64 bs.length) :
    resultsOf (finalizeStep s) = digestsOf s.t16 s.t64 s.lReq bs := by
  obtain ⟨-, h16, h32, h64, hxx, hlo, hhi, -⟩ := hres
  obtain ⟨ha16, ha32, ha64, haxx⟩ := hacc
  obtain ⟨htag0, htag1, htag2, htag3⟩ := getLsbD_routineTag s.lReq
  simp only [resultsOf, digestsOf, Digests.mk.injEq]
  refine ⟨?_, ?_, ?_, ?_, ?_, ?_⟩
  · rw [finalizeStep_resCrc16, ha16, acc16After, htag, htag0, h16]
    split <;> rfl
  · rw [finalizeStep_resCrc32, ha32, acc32After, htag, htag1, h32, crc32Step_eq]
    split <;> rfl
  · rw [finalizeStep_resCrc64, ha64, acc64After, htag, htag2, h64]
    split <;> rfl
  · rw [finalizeStep_resXxh64, haxx, accXXAfter, htag, htag3, hxx, hn]
    cases s.lReq.getLsbD 3 <;> simp [xxh64Of, xxRawOf]
  · rw [finalizeStep_resXxh128Lo, haxx, accXXAfter, htag, htag3, hlo, hn]
    cases s.lReq.getLsbD 4 <;> simp [xxh64Of, xxRawOf]
  · rw [finalizeStep_resXxh128Hi, haxx, accXXAfter, htag, htag3, hhi]
    cases s.lReq.getLsbD 4 <;> simp [xxh128HighOf, xxRawOf]

/-- With the built tables where the request needs them, each register holds its function of the bytes. -/
theorem resultRegisters_of_digests {s : State} {t16 : Vector (BitVec 16) 256} {t64 : Vector Word 256} {req : BitVec 5}
    {bs : List Byte} (h : resultsOf s = digestsOf t16 t64 req bs)
    (htables : needsTables req = true → t16 = builtT16 ∧ t64 = builtT64) :
    s.resCrc16 = (if req.getLsbD 0 then crc16Of bs else 0) ∧ s.resCrc32 = (if req.getLsbD 1 then crc32Of bs else 0) ∧
    s.resCrc64 = (if req.getLsbD 2 then crc64Of bs else 0) ∧ s.resXxh64 = (if req.getLsbD 3 then xxh64Of bs else 0) ∧
    s.resXxh128Hi ++ s.resXxh128Lo = (if req.getLsbD 4 then xxh128Of bs else 0) := by
  simp only [resultsOf, digestsOf, Digests.mk.injEq] at h
  obtain ⟨h16, h32, h64, hxx, hlo, hhi⟩ := h
  rw [needsTables_iff] at htables
  refine ⟨?_, h32, ?_, hxx, ?_⟩
  · rw [h16]
    split
    next hreq =>
      rw [(htables (.inl hreq)).1]
      rfl
    next => rfl
  · rw [h64]
    split
    next hreq =>
      rw [(htables (.inr hreq)).2]
      rfl
    next => rfl
  · rw [hhi, hlo]
    split <;> rfl

/-- Settles O59: the invariant says which bytes the accumulators are those of, and the finalize step writes their digests. -/
theorem digestsAreOfTheBytesRead : Obligations.DigestsAreOfTheBytesRead := by
  intro s h hb hop hn
  obtain ⟨-, -, -, htag, htables⟩ := h.hashRunning hb hop
  obtain ⟨hlen, hacc⟩ := h.scanFold hb hop
  have hcount : s.count = BitVec.ofNat 64 s.scanned.length := by rw [hlen, BitVec.ofNat_toNat, BitVec.setWidth_eq]
  have hdigests := resultsOf_finalizeStep (h.noResults_of_busy hb) htag hacc hcount
  obtain ⟨h16, h32, h64, hxx, hxx128⟩ :=
    resultRegisters_of_digests hdigests fun hreq => h.tablesBuilt (htables hreq)
  refine ⟨_, engineStep_of_scanned hb hop hn, rfl, rfl, h16, h32, h64, hxx, hxx128, hn ▸ hlen, fun i hi hm => ?_⟩
  refine h.scanBytes hb hop i (hn ▸ hi) ?_
  rwa [BitVec.ofNat_add, BitVec.ofNat_toNat, BitVec.setWidth_eq]

/-! ### What an engine step does not look at (42_crc32.md R176, 44_dispatcher.md R217, 10_state.md R33) -/

/-- A relation that fixes what the engine branches on, and that each of the engine's own steps keeps, is kept by an engine
step. -/
theorem engineStep_related {R : State → State → Prop}
    (hctl : ∀ s u, R s u → u.engineState = s.engineState ∧ u.lOp = s.lOp ∧ u.count = s.count ∧ u.lLen = s.lLen)
    (hbuild : ∀ s u, R s u → R (buildStep s) (buildStep u)) (hscan : ∀ s u, R s u → R (scanStep s) (scanStep u))
    (hfinalize : ∀ s u, R s u → R (finalizeStep s) (finalizeStep u)) {s t u : State} (h : engineStep s = .next t)
    (hr : R s u) : ∃ v, engineStep u = .next v ∧ R t v := by
  obtain ⟨hstate, hop, hcount, hlen⟩ := hctl s u hr
  rcases engineStep_cases h with ⟨hb, rfl⟩ | ⟨hb, ho, rfl⟩ | ⟨hb, ho, hn, rfl⟩ | ⟨hb, ho, hn, rfl⟩
  · exact ⟨u, engineStep_of_not_busy (hstate ▸ hb), hr⟩
  · exact ⟨_, engineStep_of_building (hstate.trans hb) (hop.trans ho), hbuild s u hr⟩
  · exact ⟨_, engineStep_of_scanning (hstate.trans hb) (hop.trans ho) (hcount ▸ hlen ▸ hn), hscan s u hr⟩
  · rw [← hcount, ← hlen] at hn
    exact ⟨_, (engineStep_of_hashing (hstate.trans hb) (hop.trans ho)).trans (congrArg _ (if_neg hn)), hfinalize s u hr⟩

theorem scanStep_backend (s : State) (backend : Backend) :
    scanStep { s with backend := backend } = { scanStep s with backend := backend } := by
  by_cases h : scanByteUnreadable s
  · rw [scanStep_of_unreadable h, scanStep_of_unreadable (s := { s with backend := backend }) h]
    rfl
  · rw [scanStep_of_readable h, scanStep_of_readable (s := { s with backend := backend }) h]
    simp only [consumeByte, crc32Step_eq]
    rfl

/-- Settles O45: both backends step by one byte function. -/
theorem backendNeverChangesOutput : Obligations.BackendNeverChangesOutput := by
  intro s t backend h
  obtain ⟨v, hv, rfl⟩ := engineStep_related (R := fun s u => u = { s with backend := backend })
    (by rintro s u rfl; exact ⟨rfl, rfl, rfl, rfl⟩) (by rintro s u rfl; rfl)
    (by rintro s u rfl; exact scanStep_backend s backend) (by rintro s u rfl; rfl) h rfl
  exact hv

theorem scanStep_source (s : State) (addr len : Word) :
    scanStep { s with srcAddr := addr, srcLen := len } = { scanStep s with srcAddr := addr, srcLen := len } := by
  by_cases h : scanByteUnreadable s
  · rw [scanStep_of_unreadable h, scanStep_of_unreadable (s := { s with srcAddr := addr, srcLen := len }) h]
    rfl
  · rw [scanStep_of_readable h, scanStep_of_readable (s := { s with srcAddr := addr, srcLen := len }) h]
    rfl

/-- Settles O47: no engine step reads SRC_ADDR or SRC_LEN. -/
theorem engineReadsOnlyLatchedOperands : Obligations.EngineReadsOnlyLatchedOperands := by
  intro s t addr len h
  obtain ⟨v, hv, rfl⟩ := engineStep_related (R := fun s u => u = { s with srcAddr := addr, srcLen := len })
    (by rintro s u rfl; exact ⟨rfl, rfl, rfl, rfl⟩) (by rintro s u rfl; rfl)
    (by rintro s u rfl; exact scanStep_source s addr len) (by rintro s u rfl; rfl) h rfl
  exact hv

/-- The two states differ at most in PROG_EN, PROGRESS and the events. -/
def sameButProgress (prog : Bool) (s u : State) : Prop :=
  ∃ n events, u = { s with lProg := prog, progress := n, progressEvents := events }

theorem scanStep_sameButProgress {prog : Bool} {s u : State} (h : sameButProgress prog s u) :
    sameButProgress prog (scanStep s) (scanStep u) := by
  obtain ⟨n, events, hu⟩ := h
  have hbyte : scanByteUnreadable u = scanByteUnreadable s := by
    rw [hu]
    rfl
  by_cases hun : scanByteUnreadable s
  · rw [scanStep_of_unreadable hun, scanStep_of_unreadable (hbyte ▸ hun), hu]
    exact ⟨n, events, rfl⟩
  · rw [scanStep_of_readable hun, scanStep_of_readable (hbyte ▸ hun), hu]
    exact ⟨_, _, rfl⟩

/-- Settles O46: the progress port is all that PROG_EN reaches. -/
theorem progressNeverChangesResults : Obligations.ProgressNeverChangesResults := by
  intro s t prog h
  obtain ⟨v, hv, n, events, rfl⟩ := engineStep_related (R := sameButProgress prog)
    (by rintro s u ⟨n, events, rfl⟩; exact ⟨rfl, rfl, rfl, rfl⟩)
    (by rintro s u ⟨n, events, rfl⟩; exact ⟨n, events, rfl⟩) (fun s u => scanStep_sameButProgress)
    (by rintro s u ⟨n, events, rfl⟩; exact ⟨n, events, rfl⟩) h ⟨s.progress, s.progressEvents, rfl⟩
  exact ⟨n, events, hv⟩

end Sys2Proof.Machine

/-! PROOFS. A HASH_STREAM that is left to run: its state after each scan step, its end, its digests and its progress events
(44_dispatcher.md R214 to R227). -/

namespace Sys2Proof.Machine

/-! ### Running several steps -/

theorem runSteps_succ_iff {k : Nat} {s t : State} :
    Claims.runSteps (k + 1) s = .next t ↔ ∃ u, step s = .next u ∧ Claims.runSteps k u = .next t := by
  simp only [Claims.runSteps, Host.Core.run]
  cases h : step s with
  | next u => simp [show core.step s = .next u from h]
  | fault r => simp [show core.step s = .fault r from h]
  | refused r => simp [show core.step s = .refused r from h]

/-- A run of one step more takes that step at its end. -/
theorem runSteps_snoc {k : Nat} {s t u : State} (h : Claims.runSteps k s = .next t) (hu : step t = .next u) :
    Claims.runSteps (k + 1) s = .next u := by
  induction k generalizing s with
  | zero =>
    obtain rfl := Host.Outcome.next.inj h
    exact runSteps_succ_iff.2 ⟨u, hu, rfl⟩
  | succ k ih =>
    obtain ⟨v, hv, hrun⟩ := runSteps_succ_iff.1 h
    exact runSteps_succ_iff.2 ⟨v, hv, ih hrun⟩

/-! ### The state of a scan that nothing disturbs -/

/-- A HASH_STREAM that has just been accepted, with no outside move to come. -/
structure FreshScan (t : State) : Prop where
  busy : t.engineState = .busy
  op : t.lOp = opHashStream
  quiet : t.schedule = []
  unmutated : t.mutated = []
  start : t.count = 0
  initial : accumulated t []
  available : everyByteReadable t.unreadable t.lAddr.toNat t.lLen.toNat
  noWrap : t.lAddr.toNat + t.lLen.toNat ≤ addressSpace
  noResults : noResults t
  tag : t.lTag = routineTag t.lReq
  noError : t.err = .none

/-- The state after k undisturbed scan steps from t. -/
def scanAfter (t : State) : Nat → State
  | 0 => t
  | k + 1 => emitProgress (consumeByte (Memory.read t.mem (t.lAddr.toNat + k)) (scanAfter t k))

theorem scanAfter_succ (t : State) (k : Nat) :
    scanAfter t (k + 1) = emitProgress (consumeByte (Memory.read t.mem (t.lAddr.toNat + k)) (scanAfter t k)) := rfl

/-- A field that consuming a byte and emitting an event leave alone is unchanged by the scan. -/
theorem scanAfter_field {α : Type} (f : State → α) (hconsume : ∀ b s, f (consumeByte b s) = f s)
    (hemit : ∀ s, f (emitProgress s) = f s) (t : State) (k : Nat) : f (scanAfter t k) = f t := by
  induction k with
  | zero => rfl
  | succ k ih => rw [scanAfter_succ, hemit, hconsume, ih]

section scanAfterFields
variable (t : State) (k : Nat)

@[simp] theorem scanAfter_engineState : (scanAfter t k).engineState = t.engineState :=
  scanAfter_field State.engineState (fun _ _ => rfl) (fun _ => rfl) t k
@[simp] theorem scanAfter_err : (scanAfter t k).err = t.err :=
  scanAfter_field State.err (fun _ _ => rfl) (fun _ => rfl) t k
@[simp] theorem scanAfter_tablesValid : (scanAfter t k).tablesValid = t.tablesValid :=
  scanAfter_field State.tablesValid (fun _ _ => rfl) (fun _ => rfl) t k
@[simp] theorem scanAfter_overrun : (scanAfter t k).overrun = t.overrun :=
  scanAfter_field State.overrun (fun _ _ => rfl) (fun _ => rfl) t k
@[simp] theorem scanAfter_srcAddr : (scanAfter t k).srcAddr = t.srcAddr :=
  scanAfter_field State.srcAddr (fun _ _ => rfl) (fun _ => rfl) t k
@[simp] theorem scanAfter_srcLen : (scanAfter t k).srcLen = t.srcLen :=
  scanAfter_field State.srcLen (fun _ _ => rfl) (fun _ => rfl) t k
@[simp] theorem scanAfter_lOp : (scanAfter t k).lOp = t.lOp :=
  scanAfter_field State.lOp (fun _ _ => rfl) (fun _ => rfl) t k
@[simp] theorem scanAfter_lAddr : (scanAfter t k).lAddr = t.lAddr :=
  scanAfter_field State.lAddr (fun _ _ => rfl) (fun _ => rfl) t k
@[simp] theorem scanAfter_lLen : (scanAfter t k).lLen = t.lLen :=
  scanAfter_field State.lLen (fun _ _ => rfl) (fun _ => rfl) t k
@[simp] theorem scanAfter_lReq : (scanAfter t k).lReq = t.lReq :=
  scanAfter_field State.lReq (fun _ _ => rfl) (fun _ => rfl) t k
@[simp] theorem scanAfter_lTag : (scanAfter t k).lTag = t.lTag :=
  scanAfter_field State.lTag (fun _ _ => rfl) (fun _ => rfl) t k
@[simp] theorem scanAfter_lProg : (scanAfter t k).lProg = t.lProg :=
  scanAfter_field State.lProg (fun _ _ => rfl) (fun _ => rfl) t k
@[simp] theorem scanAfter_t16 : (scanAfter t k).t16 = t.t16 :=
  scanAfter_field State.t16 (fun _ _ => rfl) (fun _ => rfl) t k
@[simp] theorem scanAfter_t64 : (scanAfter t k).t64 = t.t64 :=
  scanAfter_field State.t64 (fun _ _ => rfl) (fun _ => rfl) t k
@[simp] theorem scanAfter_backend : (scanAfter t k).backend = t.backend :=
  scanAfter_field State.backend (fun _ _ => rfl) (fun _ => rfl) t k
@[simp] theorem scanAfter_mem : (scanAfter t k).mem = t.mem :=
  scanAfter_field State.mem (fun _ _ => rfl) (fun _ => rfl) t k
@[simp] theorem scanAfter_unreadable : (scanAfter t k).unreadable = t.unreadable :=
  scanAfter_field State.unreadable (fun _ _ => rfl) (fun _ => rfl) t k
@[simp] theorem scanAfter_mutated : (scanAfter t k).mutated = t.mutated :=
  scanAfter_field State.mutated (fun _ _ => rfl) (fun _ => rfl) t k
@[simp] theorem scanAfter_schedule : (scanAfter t k).schedule = t.schedule :=
  scanAfter_field State.schedule (fun _ _ => rfl) (fun _ => rfl) t k

end scanAfterFields

theorem noResults_scanAfter {t : State} (h : noResults t) (k : Nat) : noResults (scanAfter t k) := by
  rwa [scanAfter_field noResults (fun _ _ => rfl) (fun _ => rfl) t k]

theorem scanAfter_count {t : State} (h : t.count = 0) (k : Nat) : (scanAfter t k).count = BitVec.ofNat 64 k := by
  induction k with
  | zero => exact h
  | succ k ih =>
    rw [scanAfter_succ, emitProgress_count, consumeByte_count, ih]
    exact (BitVec.ofNat_add k 1).symm

theorem toNat_scanAfter_count {t : State} (h : t.count = 0) {k : Nat} (hk : k ≤ t.lLen.toNat) :
    (scanAfter t k).count.toNat = k := by
  rw [scanAfter_count h, BitVec.toNat_ofNat, Nat.mod_eq_of_lt (hk.trans_lt t.lLen.isLt)]

/-- One byte more of a ByteSource stands at its end. -/
theorem sourceBytes_succ (mem : List Host.Cell) (addr k : Nat) :
    sourceBytes mem addr (k + 1) = sourceBytes mem addr k ++ [Memory.read mem (addr + k)] := by
  rw [sourceBytes, List.range_succ, List.map_append]
  rfl

@[simp] theorem sourceBytes_length (mem : List Host.Cell) (addr k : Nat) : (sourceBytes mem addr k).length = k := by
  simp [sourceBytes]

/-- After k scan steps the accumulators are those of the first k bytes of the ByteSource. -/
theorem scanAfter_accumulated {t : State} (h : accumulated t []) (k : Nat) :
    accumulated (scanAfter t k) (sourceBytes t.mem t.lAddr.toNat k) := by
  induction k with
  | zero => exact h
  | succ k ih =>
    rw [sourceBytes_succ]
    exact consumeByte_accumulated ih _

/-- The next scan step of an undisturbed scan reads the byte that host memory holds. -/
theorem scanStep_scanAfter {t : State} (h : FreshScan t) {k : Nat} (hk : k < t.lLen.toNat) :
    scanStep (scanAfter t k) = scanAfter t (k + 1) := by
  have hcount := toNat_scanAfter_count h.start hk.le
  have haddr : (scanAddr (scanAfter t k)).toNat = t.lAddr.toNat + k := by
    rw [toNat_scanAddr (by simpa [hcount] using hk) (by simpa using h.noWrap), hcount, scanAfter_lAddr]
  have hmut : scanAddr (scanAfter t k) ∉ (scanAfter t k).mutated := by simp [h.unmutated]
  have hread : ¬ scanByteUnreadable (scanAfter t k) := by
    rintro ⟨r, hr, hin⟩
    rw [haddr] at hin
    exact h.available _ (by omega) (by omega) r (by simpa using hr) hin
  have hdraws : afterScanRead (scanAfter t k) = scanAfter t k := by
    rw [afterScanRead, if_neg hmut]
  rw [scanStep_of_readable hread, scanByte_of_not_mutated hmut, haddr, hdraws, scanAfter_mem, scanAfter_succ]

/-- With no outside move, k steps of a fresh scan are its first k scan steps. -/
theorem runSteps_of_freshScan {t : State} (h : FreshScan t) {k : Nat} (hk : k ≤ t.lLen.toNat) :
    Claims.runSteps k t = .next (scanAfter t k) := by
  induction k with
  | zero => rfl
  | succ k ih =>
    have hn : (scanAfter t k).count.toNat < (scanAfter t k).lLen.toNat := by
      rw [toNat_scanAfter_count h.start (Nat.le_of_succ_le hk), scanAfter_lLen]
      exact hk
    refine runSteps_snoc (ih (Nat.le_of_succ_le hk)) ?_
    rw [step_of_schedule_nil (by simpa using h.quiet),
      engineStep_of_scanning (by simpa using h.busy) (by simpa using h.op) hn, scanStep_scanAfter h hk]

/-- The step after the last scan step is the finalize step (44_dispatcher.md R227). -/
theorem runSteps_to_end {t : State} (h : FreshScan t) :
    Claims.runSteps (t.lLen.toNat + 1) t = .next (finalizeStep (scanAfter t t.lLen.toNat)) := by
  have hn : (scanAfter t t.lLen.toNat).count = (scanAfter t t.lLen.toNat).lLen := by
    rw [scanAfter_count h.start, scanAfter_lLen, BitVec.ofNat_toNat, BitVec.setWidth_eq]
  refine runSteps_snoc (runSteps_of_freshScan h le_rfl) ?_
  rw [step_of_schedule_nil (by simpa using h.quiet),
    engineStep_of_scanned (by simpa using h.busy) (by simpa using h.op) hn]

/-- The digests at the end of a run are those of the ByteSource. -/
theorem resultsOf_end {t : State} (h : FreshScan t) :
    resultsOf (finalizeStep (scanAfter t t.lLen.toNat)) =
      digestsOf t.t16 t.t64 t.lReq (sourceBytes t.mem t.lAddr.toNat t.lLen.toNat) := by
  have hdigests := resultsOf_finalizeStep (noResults_scanAfter h.noResults t.lLen.toNat)
    (by simpa using h.tag) (scanAfter_accumulated h.initial _) (by rw [scanAfter_count h.start, sourceBytes_length])
  rwa [scanAfter_t16, scanAfter_t64, scanAfter_lReq] at hdigests

/-! ### From the acceptance to the end -/

/-- An acceptance whose checks passed, with no outside move to come, starts a fresh scan. -/
theorem freshScan_beginHashStream {s : State} {req : BitVec 5} (hs : s.schedule = [])
    (hcheck : hashStreamCheck req s = .none) (prog : Bool) : FreshScan (beginHashStream req prog (clearResults s)) := by
  obtain ⟨-, hbounds, -⟩ := (hashStreamCheck_none_iff req s).1 hcheck
  obtain ⟨hread, hwrap⟩ := (boundsOk_iff _ _ _).1 hbounds
  exact ⟨rfl, rfl, hs, rfl, rfl, by simp [accumulated], hread, hwrap, noResults_clearResults s, rfl, rfl⟩

/-- A HASH_STREAM that has been accepted passed its checks. -/
theorem hashStream_of_accepted {s t : State} {req : BitVec 5} {prog : Bool} (hb : s.engineState ≠ .busy)
    (ht : exec (.hashStream req prog) s = .next t) (hbusy : t.engineState = .busy) :
    hashStreamCheck req s = .none ∧ t = beginHashStream req prog (clearResults s) := by
  have hcheck : hashStreamCheck req s = .none := by
    by_contra hfail
    obtain rfl := Host.Outcome.next.inj ((exec_hashStream_of_failed hb rfl hfail prog).symm.trans ht)
    simp at hbusy
  exact ⟨hcheck, (Host.Outcome.next.inj ((exec_hashStream_of_passed hb hcheck prog).symm.trans ht)).symm⟩

/-- The end of a run that was accepted from s holds the digests of s's ByteSource. -/
theorem resultsOf_run {s t u : State} {req : BitVec 5} {prog : Bool} (hb : s.engineState ≠ .busy)
    (hs : s.schedule = []) (ht : exec (.hashStream req prog) s = .next t) (hbusy : t.engineState = .busy)
    (hu : Claims.runSteps (s.srcLen.toNat + 1) t = .next u) :
    u.resValid = req ∧
    resultsOf u = digestsOf s.t16 s.t64 req (sourceBytes s.mem s.srcAddr.toNat s.srcLen.toNat) := by
  obtain ⟨hcheck, rfl⟩ := hashStream_of_accepted hb ht hbusy
  have hfresh := freshScan_beginHashStream hs hcheck prog
  obtain rfl := Host.Outcome.next.inj ((runSteps_to_end hfresh).symm.trans hu)
  exact ⟨by simp, resultsOf_end hfresh⟩

/-- Settles O40: the run from the acceptance to its end, the digests there, and what the run leaves alone. -/
theorem hashStreamRunsToDigests : Obligations.HashStreamRunsToDigests := by
  intro s req prog hb hs hlen hsrc ht bs
  have hcheck := hashStreamCheck_of_source hlen hsrc fun hreq => (ht hreq).1
  have hfresh := freshScan_beginHashStream hs hcheck prog
  have hdigests := resultsOf_end hfresh
  obtain ⟨h16, h32, h64, hxx, hxx128⟩ :=
    resultRegisters_of_digests hdigests fun hreq => (ht ((needsTables_iff req).1 hreq)).2
  refine ⟨_, _, exec_hashStream_of_passed hb hcheck prog, rfl, runSteps_to_end hfresh, rfl, ?_, ?_, h16, h32, h64, hxx,
    hxx128, ?_, ?_, ?_, ?_, ?_, ?_, ?_, ?_⟩ <;> simp

/-- Settles O41: the state after k scan steps, and the finalize step after the last. -/
theorem hashStreamEndsAfterLenPlusOneSteps : Obligations.HashStreamEndsAfterLenPlusOneSteps := by
  intro s req prog hb hs hlen hsrc ht
  have hcheck := hashStreamCheck_of_source hlen hsrc ht
  have hfresh := freshScan_beginHashStream hs hcheck prog
  refine ⟨_, exec_hashStream_of_passed hb hcheck prog, fun k hk => ⟨_, runSteps_of_freshScan hfresh hk, ?_⟩, _,
    runSteps_to_end hfresh, rfl⟩
  exact ⟨by simp, toNat_scanAfter_count hfresh.start hk, noResults_scanAfter hfresh.noResults k⟩

/-- Settles O43: the digests at the end depend on the request, the tables and the bytes alone. -/
theorem hashStreamIsIdempotent : Obligations.HashStreamIsIdempotent := by
  intro s1 s2 t1 t2 u1 u2 req p1 p2 hb1 hb2 hs1 hs2 hlen hbytes h16 h64 ht1 ht2 hbusy1 hbusy2 hu1 hu2
  obtain ⟨hv1, hr1⟩ := resultsOf_run hb1 hs1 ht1 hbusy1 hu1
  obtain ⟨hv2, hr2⟩ := resultsOf_run hb2 hs2 ht2 hbusy2 hu2
  rw [hbytes, h16, h64, ← hr2] at hr1
  exact ⟨hv1.trans hv2.symm, congrArg Digests.crc16 hr1, congrArg Digests.crc32 hr1, congrArg Digests.crc64 hr1,
    congrArg Digests.xxh64 hr1, congrArg Digests.xxh128Lo hr1, congrArg Digests.xxh128Hi hr1⟩

/-- Settles O44: in either request it is XXH64 of the same bytes. -/
theorem xxh64SameAloneAndWithXxh128 : Obligations.Xxh64SameAloneAndWithXxh128 := by
  intro s t1 t2 u1 u2 req1 req2 p1 p2 hb hs ht1 ht2 hbusy1 hbusy2 hu1 hu2 h3 h4
  have hxx1 := congrArg Digests.xxh64 (resultsOf_run hb hs ht1 hbusy1 hu1).2
  have hr2 := (resultsOf_run hb hs ht2 hbusy2 hu2).2
  have hxx2 := congrArg Digests.xxh64 hr2
  have hlo2 := congrArg Digests.xxh128Lo hr2
  simp only [resultsOf, digestsOf, h3, h4, if_true] at hxx1 hxx2 hlo2
  exact ⟨hlo2.trans hxx1.symm, hxx1 ▸ hxx2⟩

/-! ### The progress events of a run (44_dispatcher.md R222) -/

/-- The events of the first k bytes of a command of length L. -/
def progressEventsUpTo (len : Word) (k : Nat) : List ProgressEvent :=
  (((List.range k).map (fun i => i + 1)).filter (fun n => progressPoint n len.toNat)).map
    (fun n => ⟨BitVec.ofNat 64 n, len⟩)

theorem progressEventsUpTo_succ (len : Word) (k : Nat) :
    progressEventsUpTo len (k + 1) =
      progressEventsUpTo len k ++ if progressPoint (k + 1) len.toNat then [⟨BitVec.ofNat 64 (k + 1), len⟩] else [] := by
  rw [progressEventsUpTo, List.range_succ, List.map_append, List.filter_append, List.map_append, progressEventsUpTo]
  congr 1
  by_cases h : progressPoint (k + 1) len.toNat = true <;> simp [h]

/-- The event of scan step k + 1 is due at a progress point, where PROG_EN is 1. -/
theorem progressDue_scanAfter {t : State} (h : t.count = 0) {k : Nat} (hk : k < t.lLen.toNat) (b : Byte) :
    progressDue (consumeByte b (scanAfter t k)) = (t.lProg && progressPoint (k + 1) t.lLen.toNat) := by
  have hcount : (scanAfter t k).count.toNat + 1 = k + 1 := by rw [toNat_scanAfter_count h hk.le]
  rw [progressDue, consumeByte_lProg, consumeByte_lLen, consumeByte_count, scanAfter_lProg, scanAfter_lLen,
    toNat_count_add_one (by rw [toNat_scanAfter_count h hk.le, scanAfter_lLen]; exact hk), hcount]

theorem scanAfter_progressEvents {t : State} (h : t.count = 0) {k : Nat} (hk : k ≤ t.lLen.toNat) :
    (scanAfter t k).progressEvents = t.progressEvents ++ if t.lProg then progressEventsUpTo t.lLen k else [] := by
  induction k with
  | zero => simp [scanAfter, progressEventsUpTo]
  | succ k ih =>
    have hdue := progressDue_scanAfter h hk (Memory.read t.mem (t.lAddr.toNat + k))
    have hn : (scanAfter t k).count + 1 = BitVec.ofNat 64 (k + 1) := by
      rw [scanAfter_count h]
      exact (BitVec.ofNat_add k 1).symm
    simp only [scanAfter_succ, emitProgress, hdue, consumeByte_progressEvents, consumeByte_count, consumeByte_lLen, hn,
      scanAfter_lLen, ih (Nat.le_of_succ_le hk), progressEventsUpTo_succ]
    cases t.lProg <;> by_cases hp : progressPoint (k + 1) t.lLen.toNat = true <;> simp [hp]

theorem scanAfter_progress_of_off {t : State} (hprog : t.lProg = false) (k : Nat) :
    (scanAfter t k).progress = t.progress := by
  induction k with
  | zero => rfl
  | succ k ih => simp [scanAfter_succ, emitProgress, progressDue, hprog, ih]

/-- The last byte of a command is a progress point (44_dispatcher.md R222). -/
theorem progressPoint_self (len : Nat) : progressPoint len len = true := by
  simp [progressPoint]

/-- With PROG_EN the last byte's event leaves PROGRESS at L_LEN. -/
theorem scanAfter_progress_of_on {t : State} (h : t.count = 0) (hprog : t.lProg = true) (hlen : t.lLen ≠ 0) :
    (scanAfter t t.lLen.toNat).progress = t.lLen := by
  obtain ⟨k, hk⟩ := Nat.exists_eq_succ_of_ne_zero (show t.lLen.toNat ≠ 0 from fun e => hlen (BitVec.eq_of_toNat_eq e))
  have hend : (scanAfter t t.lLen.toNat).count = t.lLen := by
    rw [scanAfter_count h, BitVec.ofNat_toNat, BitVec.setWidth_eq]
  have hdue := progressDue_scanAfter h (show k < t.lLen.toNat by omega) (Memory.read t.mem (t.lAddr.toNat + k))
  rw [hprog, ← Nat.succ_eq_add_one, ← hk, progressPoint_self] at hdue
  rw [hk, scanAfter_succ] at hend ⊢
  exact (if_pos hdue).trans hend

/-- The points as the statement writes them. -/
theorem progressEventsUpTo_eq (len : Word) :
    progressEventsUpTo len len.toNat =
      (((List.range len.toNat).map (fun k => k + 1)).filter
        (fun n => n % max 1 (len.toNat / 100) == 0 || n == len.toNat)).map (fun n => ⟨BitVec.ofNat 64 n, len⟩) := by
  rw [progressEventsUpTo]
  congr 1
  refine List.filter_congr fun n hn => ?_
  obtain ⟨k, hk, rfl⟩ := List.mem_map.1 hn
  have hlt := List.mem_range.1 hk
  rw [Bool.eq_iff_iff, progressPoint_iff (Nat.succ_pos k) hlt]
  simp [progressStride]

/-- Settles O42: the events and PROGRESS of the scan, which the finalize step keeps. -/
theorem progressEventsOfRun : Obligations.ProgressEventsOfRun := by
  intro s req prog hb hs hlen hsrc ht
  have hcheck := hashStreamCheck_of_source hlen hsrc ht
  have hfresh := freshScan_beginHashStream hs hcheck prog
  refine ⟨_, _, exec_hashStream_of_passed hb hcheck prog, runSteps_to_end hfresh, ?_, ?_⟩
  · rw [finalizeStep_progress]
    cases prog with
    | true => exact scanAfter_progress_of_on hfresh.start rfl hlen
    | false => exact scanAfter_progress_of_off rfl _
  · rw [finalizeStep_progressEvents, scanAfter_progressEvents hfresh.start le_rfl, progressEventsUpTo_eq]
    rfl

end Sys2Proof.Machine

/-! PROOFS. Host stores: the byte they write, and what they make of a running scan (20_memory.md R61, R64, R74). -/

namespace Sys2Proof.Machine

/-! ### Outside the window, and inside it -/

theorem inWindow_eq_false {addr : Word}
    (h : ¬ (Config.regBase.toNat ≤ addr.toNat ∧ addr.toNat < Config.regBase.toNat + 0x2000)) :
    inWindow addr = false := Bool.eq_false_iff.2 (mt (inWindow_iff addr).1 h)

theorem runMove_store_outside {addr : Word} (h : inWindow addr = false) (byte : Byte) (s : State) :
    runMove (.store addr byte) s = .next (hostStore addr byte s) := by
  simp [runMove, runStore, h]

theorem runMove_store_inside {addr : Word} (h : inWindow addr = true) (byte : Byte) (s : State) :
    runMove (.store addr byte) s = .refused .storeToWindow := by
  simp [runMove, runStore, h]

/-- A move with which no reset asserts is run on the rest of the schedule. -/
theorem step_of_move {s : State} {m : Move} {rest : List Slot} (h : s.schedule = ⟨false, m⟩ :: rest) :
    step s = runMove m { s with schedule := rest } := by
  simp only [step, h]
  rfl

/-! ### What a store does to the records and to the scan (20_memory.md R74) -/

/-- The store's address is remembered. -/
theorem recordStore_of_new {s : State} {addr : Word} (hsrc : inRunningSource s addr = true) (hm : addr ∉ s.mutated)
    (byte : Byte) :
    recordStore addr byte s =
      { s with mem := Memory.write s.mem addr.toNat byte, mutated := addr :: s.mutated } := by
  simp [recordStore, hsrc, hm]

/-- Outside the running ByteSource a store changes host memory alone. -/
theorem hostStore_of_outside_source {s : State} {addr : Word} (hsrc : inRunningSource s addr = false) (byte : Byte) :
    hostStore addr byte s = { s with mem := Memory.write s.mem addr.toNat byte } := by
  rcases hostStore_cases addr byte s with ⟨-, e⟩ | ⟨htrue, -⟩
  · simp [e, recordStore, hsrc]
  · cases hsrc.symm.trans htrue

/-- A further store to a remembered address changes host memory alone. -/
theorem hostStore_of_remembered {s : State} {addr : Word} (hm : addr ∈ s.mutated) (byte : Byte) :
    hostStore addr byte s = { s with mem := Memory.write s.mem addr.toNat byte } := by
  rcases hostStore_cases addr byte s with ⟨-, e⟩ | ⟨-, hnew, -⟩
  · simp [e, recordStore, hm]
  · exact absurd hm hnew

/-- A store ahead of the scan is remembered. -/
theorem hostStore_of_ahead {s : State} {addr : Word} (hsrc : inRunningSource s addr = true) (hm : addr ∉ s.mutated)
    (hn : s.count.toNat ≤ sourceIndex s addr) (byte : Byte) :
    hostStore addr byte s =
      { s with mem := Memory.write s.mem addr.toNat byte, mutated := addr :: s.mutated } := by
  rcases hostStore_cases addr byte s with ⟨-, e⟩ | ⟨-, -, hlt, -⟩
  · rw [e, recordStore_of_new hsrc hm]
  · omega

/-- A store behind the scan is remembered, and the byte read there is drawn anew. -/
theorem hostStore_of_behind {s : State} {addr : Word} (hsrc : inRunningSource s addr = true) (hm : addr ∉ s.mutated)
    (hn : sourceIndex s addr < s.count.toNat) (byte : Byte) :
    hostStore addr byte s = redrawByte (sourceIndex s addr)
      { s with mem := Memory.write s.mem addr.toNat byte, mutated := addr :: s.mutated } := by
  rcases hostStore_cases addr byte s with ⟨hread, -⟩ | ⟨-, -, -, e⟩
  · simp [readAsStored, hsrc, hm, hn] at hread
  · rw [e, recordStore_of_new hsrc hm]

/-- A store changes only host memory, the records of the scan, its accumulators and the count of draws. -/
theorem hostStore_frame (addr : Word) (byte : Byte) (s : State) :
    let t := hostStore addr byte s
    t = { s with
      mem := t.mem, mutated := t.mutated, scanned := t.scanned, acc16 := t.acc16, acc32 := t.acc32, acc64 := t.acc64,
      accXX := t.accXX, draws := t.draws } := by
  rcases hostStore_cases addr byte s with ⟨-, e⟩ | ⟨-, -, -, e⟩ <;> rw [e] <;> rfl

/-- Settles O53, from the frame of a store and the laws of host memory. -/
theorem hostStoreWritesOneByte : Obligations.HostStoreWritesOneByte := by
  intro s addr byte rest hs hwf
  rw [step_of_move hs]
  refine ⟨fun hout => ⟨_, runMove_store_outside (inWindow_eq_false hout) byte _, hostStore_frame addr byte _, ?_, ?_, ?_,
    hostStore_memWf addr byte _ hwf⟩, fun hin => runMove_store_inside ((inWindow_iff addr).2 hin) byte _⟩
  · intro hsrc
    have hfalse : inRunningSource { s with schedule := rest } addr = false :=
      Bool.eq_false_iff.2 (mt (inRunningSource_iff _ addr).1 hsrc)
    rw [hostStore_of_outside_source hfalse]
  · rw [hostStore_mem]
    exact Memory.read_write_same s.mem hwf.1 addr.toNat byte
  · intro a ha
    rw [hostStore_mem]
    exact Memory.read_write_other s.mem hwf.1 addr.toNat a byte ha

/-- The byte at a remembered address is read as a draw. -/
theorem scanByte_of_mutated {s : State} (h : scanAddr s ∈ s.mutated) : scanByte s = (drawAt s 0).setWidth 8 := if_pos h

/-- Settles O54: the store's address is remembered, and the scan reads a draw there. -/
theorem storeDuringScanMakesByteADraw : Obligations.StoreDuringScanMakesByteADraw := by
  intro s addr byte hb hop hlo hhi hout
  refine ⟨_, runMove_store_outside (inWindow_eq_false hout) byte s, fun n hn => ?_⟩
  have hmem : addr ∈ (hostStore addr byte s).mutated :=
    (mem_mutated_hostStore addr addr byte s).2 (.inr ⟨(inRunningSource_iff s addr).2 ⟨hb, hop, hlo, hhi⟩, rfl⟩)
  refine scanByte_of_mutated (s := { hostStore addr byte s with count := n }) ?_
  rwa [scanAddr, hostStore_lAddr, hn]

/-- Settles O58: behind the scan, ahead of it, and at an address remembered already. -/
theorem storeBehindScanMakesByteADraw : Obligations.StoreBehindScanMakesByteADraw := by
  intro s addr byte hb hop hlo hhi hout i bs
  have hsrc := (inRunningSource_iff s addr).2 ⟨hb, hop, hlo, hhi⟩
  rw [runMove_store_outside (inWindow_eq_false hout)]
  refine ⟨fun hn hm => ?_, fun hn hm => ?_, fun hm => ?_⟩
  · rw [hostStore_of_behind hsrc hm hn, redrawByte]
    simp only [acc32After, crc32Step_eq]
    rfl
  · rw [hostStore_of_ahead hsrc hm hn]
  · rw [hostStore_of_remembered hm]

end Sys2Proof.Machine

/-! PROOFS. The number of progress points (44_dispatcher.md R222) and the assembler lines (30_encoding.md R99). -/

namespace Sys2Proof.Machine

/-! ### The number of progress points -/

theorem progressStride_pos (len : Nat) : 0 < progressStride len := Nat.lt_of_lt_of_le Nat.one_pos (Nat.le_max_left 1 _)

/-- A progress point up to L is L or a multiple of the stride. -/
theorem mem_of_progressPoint {n len : Nat} (h : progressPoint n len = true) :
    n ∈ insert len ((Finset.Ioc 0 len).filter (progressStride len ∣ ·)) := by
  simp only [progressPoint, Bool.or_eq_true, Bool.and_eq_true, decide_eq_true_eq, beq_iff_eq] at h
  rw [Finset.mem_insert, Finset.mem_filter, Finset.mem_Ioc]
  exact h.symm.imp_right fun ⟨⟨hlo, hhi⟩, hdvd⟩ => ⟨⟨hlo, hhi⟩, Nat.dvd_of_mod_eq_zero hdvd⟩

/-- There are at most as many progress points as the stride goes into L, and L itself. -/
theorem length_progressPoints_le (len : Nat) :
    ((List.range (len + 1)).filter (fun n => progressPoint n len)).length ≤ len / progressStride len + 1 := by
  rw [← List.toFinset_card_of_nodup (List.nodup_range.filter _), ← Nat.Ioc_filter_dvd_card_eq_div]
  refine (Finset.card_le_card fun n hn => ?_).trans (Finset.card_insert_le len _)
  exact mem_of_progressPoint (List.mem_filter.1 (List.mem_toFinset.1 hn)).2

/-- The stride goes into L fewer than 200 times. -/
theorem div_progressStride_lt (len : Nat) : len / progressStride len < 200 := by
  rw [Nat.div_lt_iff_lt_mul (progressStride_pos len), progressStride]
  omega

/-- Settles O39: the stride goes into L at most 199 times, and L is one point more. -/
theorem progressPointsAtMost200 : Obligations.ProgressPointsAtMost200 := fun len _ =>
  ⟨(length_progressPoints_le len).trans (div_progressStride_lt len), progressPoint_self len⟩

/-! ### The words of the lines -/

theorem commandWord_hashStream_eq_or (req : BitVec 5) (prog : Bool) :
    commandWord opHashStream req prog =
      0x2#64 ||| (req.setWidth 64 <<< 4) ||| (if prog then 1#64 <<< 9 else 0#64) := by
  revert req prog
  decide +kernel

/-- A register stands at the offset that 10_state.md R20 gives it. -/
theorem toNat_regOffset (r : Reg) : (regOffset r).toNat = Claims.registerOffset r := by
  cases r with
  | crc16Table i => exact toNat_regOffset_crc16Table i
  | crc64Table i => exact toNat_regOffset_crc64Table i
  | _ => rfl

theorem ofNat_registerOffset (r : Reg) : BitVec.ofNat 13 (Claims.registerOffset r) = regOffset r := by
  rw [← toNat_regOffset, BitVec.ofNat_toNat, BitVec.setWidth_eq]

theorem writeWord_eq (r : Reg) (v : Word) :
    writeWord r v = .bus (BitVec.ofNat 16 (0x8000 + Claims.registerOffset r)) v := by
  have hheader : (busHeader true (regOffset r)).toNat = 0x8000 + Claims.registerOffset r := by
    rw [toNat_busHeader, toNat_regOffset]
    rfl
  rw [← hheader, BitVec.ofNat_toNat, BitVec.setWidth_eq]
  rfl

theorem readWord_eq (r : Reg) : readWord r = .bus (BitVec.ofNat 16 (Claims.registerOffset r)) 0 := by
  have hheader : (busHeader false (regOffset r)).toNat = Claims.registerOffset r := by
    rw [toNat_busHeader, toNat_regOffset]
    exact Nat.zero_add _
  rw [← hheader, BitVec.ofNat_toNat, BitVec.setWidth_eq]
  rfl

/-- A line expands to register accesses. -/
theorem mem_expandLine {polls : Nat} {line : Line} {w : HostWord} (h : w ∈ expandLine polls line) :
    (∃ r v, w = writeWord r v) ∨ ∃ r, w = readWord r := by
  cases line with
  | blank => cases h
  | wr r v => exact .inl ⟨r, v, List.mem_singleton.1 h⟩
  | rd r => exact .inr ⟨r, List.mem_singleton.1 h⟩
  | src a n =>
    rcases List.mem_pair.1 h with rfl | rfl
    · exact .inl ⟨_, _, rfl⟩
    · exact .inl ⟨_, _, rfl⟩
  | build => exact .inl ⟨_, _, List.mem_singleton.1 h⟩
  | hash algs prog => exact .inl ⟨_, _, List.mem_singleton.1 h⟩
  | wait => exact .inr ⟨_, List.eq_of_mem_replicate h⟩
  | check r v => exact .inr ⟨r, List.mem_singleton.1 h⟩

theorem decode_of_mem_expandLine {polls : Nat} {line : Line} {w : HostWord} (h : w ∈ expandLine polls line) :
    ∃ i, decode w = .ok i ∧ i.wellFormed = true := by
  rcases mem_expandLine h with ⟨r, v, rfl⟩ | ⟨r, rfl⟩
  · exact ⟨_, decodeEncodeRoundTrip (.regWrite (regOffset r) v) (offsetAligned_regOffset r), offsetAligned_regOffset r⟩
  · exact ⟨_, decodeEncodeRoundTrip (.regRead (regOffset r)) (offsetAligned_regOffset r), offsetAligned_regOffset r⟩

/-! ### WAIT's loop -/

theorem waitEnds_iff (status : Word) : waitEnds status = true ↔ status.toNat % 4 ≠ 1 := by
  rw [waitEnds, bne_iff_ne, Ne, ← BitVec.toNat_inj, BitVec.extractLsb'_toNat, Nat.shiftRight_zero]
  rfl

/-- STATE stands in the lowest two bits of STATUS (10_state.md R22). -/
theorem extractLsb'_statusWord_state (s : State) : (statusWord s).extractLsb' 0 2 = stateCode s.engineState := by
  rw [statusWord, BitVec.extractLsb'_append_eq_of_add_le (by decide)]
  exact BitVec.extractLsb'_eq_self

theorem waitEnds_statusWord_iff (s : State) : waitEnds (statusWord s) = true ↔ s.engineState ≠ .busy := by
  rw [waitEnds, extractLsb'_statusWord_state]
  cases s.engineState <;> decide

/-- Settles O56: the words of each line, the end of WAIT's loop, and what the words decode to. -/
theorem assemblerLinesExpand : Obligations.AssemblerLinesExpand := by
  refine ⟨fun _ => rfl, fun _ _ _ => rfl, fun _ => rfl, fun _ algs prog => ?_, fun _ => rfl, waitEnds_statusWord_iff,
    waitEnds_iff, fun _ r v _ => ⟨?_, ?_, ?_, ?_⟩, fun s r v => beq_iff_eq, fun _ _ _ => decode_of_mem_expandLine⟩
  · rw [← commandWord_hashStream_eq_or]
    rfl
  · rw [← writeWord_eq]
    rfl
  · rw [← readWord_eq]
    rfl
  · rw [← readWord_eq]
    rfl
  · rw [ofNat_registerOffset, regAt_regOffset]

end Sys2Proof.Machine
